-- ==== Sys2Proof/Word.lean ====
section
/-! DEFINITION. The two word types: a byte of the source or of a buffer, and the 32-bit word of the host port. -/

namespace Sys2Proof

/-- A byte: 8 bits, bit 0 the least significant (R10). -/
abbrev Byte := BitVec 8

/-- A register or a host-port word: 32 bits, unsigned (R12, R21). -/
abbrev Word := BitVec 32

end Sys2Proof
end

