-- ==== Sys2Proof/Syntax.lean ====
section
/-! DEFINITION. The nine commands, the variant they may carry, the names of illegal command bytes, and the data of
the configuration record `CFG`. -/

namespace Sys2Proof

/-- The content mode of a frame (R9). -/
inductive Mode where
  | monochrome | color | colorXP
deriving DecidableEq, Repr

/-- The orientation of a capture: which byte of each adjacent pair was delivered first (R9, R15). -/
inductive Orient where
  | normal | swapped
deriving DecidableEq, Repr

/-- The six variants, in the order of their codes (R9, R83). -/
inductive Variant where
  | monoN | monoS | colorN | colorS | xpN | xpS
deriving DecidableEq, Repr

/-- One constructor per row of the opcode map (R81). MATCH and DECODE carry the variant of their `var` field; every
other operand is a register. Codes 6 and 7 name no variant, so a term of this type is always a legal command. -/
inductive Instr where
  | nop
  | init
  | probe
  | matchV (v : Variant)
  | locate
  | fetch
  | decodeV (v : Variant)
  | wstep
  | next
deriving DecidableEq, Repr

/-- Why a command byte is illegal: the four cases of R81's decoder (R84, V1). -/
inductive Illegal where
  /-- `op` is 0x9 to 0xF. -/
  | reservedOp
  /-- Bit 3 (`z`) is set. -/
  | bit3Set
  /-- MATCH or DECODE with `var` 6 or 7. -/
  | reservedVariant
  /-- Any other command with `var` not 0. -/
  | varNotZero
deriving DecidableEq, Repr

/-- Which nibble of a source byte feeds an output byte: `sel` of R6 and R166 (X3). -/
inductive Nibble where
  | hi | lo
deriving DecidableEq, Repr

/-- One entry of a pixel map: the index of the source byte in the reversed buffer, and the nibble taken (R6). -/
structure PixSrc where
  src : Nat
  sel : Nibble
deriving DecidableEq, Repr

/-- One value for each of the six variants. -/
structure PerVariant (α : Type) where
  monoN : α
  monoS : α
  colorN : α
  colorS : α
  xpN : α
  xpS : α
deriving DecidableEq, Repr

/-- One value for each of the three content modes. -/
structure PerMode (α : Type) where
  monochrome : α
  color : α
  colorXP : α
deriving DecidableEq, Repr

/-- The data of the configuration record `CFG` (R6), as a build supplies it and before any check. A pixel map is the
table of its values, entry `o` for output byte `o`. -/
structure CfgData where
  /-- `CFG.PRIORITY` -/
  priority : List Variant
  /-- `CFG.SEED_N` -/
  seedN : List Byte
  /-- `CFG.SEED_S` -/
  seedS : List Byte
  /-- `CFG.MARKER` -/
  marker : PerVariant (List Byte)
  /-- `CFG.XPMASK[XPN]` -/
  xpMaskN : List Nat
  /-- `CFG.XPMASK[XPS]` -/
  xpMaskS : List Nat
  /-- `CFG.PIXMAP` -/
  pixmap : PerMode (List PixSrc)
deriving DecidableEq, Repr

end Sys2Proof
end

