-- ==== Sys2Proof/Machine/Constants.lean ====
section
/-! DEFINITION. The numbers the source fixes (R5), and what a variant determines: its mode, its orientation, its
stride and its audio start (R5, R9, R83). -/

namespace Sys2Proof

/-- `SEED_LEN`: bytes in a seed and in the probe (R5). -/
abbrev seedLen : Nat := 8

/-- `SECTOR`: bytes in an optical-disc sector (R5). -/
abbrev sector : Nat := 2352

/-- `AUD_PERIOD`: one audio byte in every 10 raw bytes (R5). -/
abbrev audPeriod : Nat := 10

/-- `ROW_BYTES`: 144 pixels of 3 bytes (R5). -/
abbrev rowBytes : Nat := 432

/-- `PIX_BYTES`: the pixel sequence's length, and the size of PIXEL (R5, R33). -/
abbrev pixBytes : Nat := 34560

/-- The size of the FRAME buffer: the larger stride (R31). -/
abbrev frameBytesMax : Nat := 19760

/-- The size of the AUDIO buffer (R32). -/
abbrev audioBytesMax : Nat := 1976

/-- The smaller stride, the bound on a pixel map's source index (R7 W5). -/
abbrev strideMin : Nat := 19600

/-- `mode(v)` (R9, R83). -/
def Variant.mode : Variant → Mode
  | .monoN | .monoS => .monochrome
  | .colorN | .colorS => .color
  | .xpN | .xpS => .colorXP

/-- `orient(v)` (R9, R83). -/
def Variant.orient : Variant → Orient
  | .monoN | .colorN | .xpN => .normal
  | .monoS | .colorS | .xpS => .swapped

/-- The stride of a content mode (R5). -/
def Mode.stride : Mode → Nat
  | .monochrome | .color => 19600
  | .colorXP => 19760

/-- `STRIDE(v)`: the frame's length in bytes (R5, R83). -/
def Variant.stride (v : Variant) : Nat := v.mode.stride

/-- `AUD_START(o)`: the first payload slot of a raw frame (R5). -/
def Orient.audStart : Orient → Nat
  | .normal => 8
  | .swapped => 9

/-- The entry for one variant. -/
def PerVariant.get {α : Type} (t : PerVariant α) : Variant → α
  | .monoN => t.monoN
  | .monoS => t.monoS
  | .colorN => t.colorN
  | .colorS => t.colorS
  | .xpN => t.xpN
  | .xpS => t.xpS

/-- The entry for one mode. -/
def PerMode.get {α : Type} (t : PerMode α) : Mode → α
  | .monochrome => t.monochrome
  | .color => t.color
  | .colorXP => t.colorXP

/-- The six variants, in code order (R83). -/
def Variant.all : List Variant := [.monoN, .monoS, .colorN, .colorS, .xpN, .xpS]

/-- `CFG.XPMASK[v]` of the XP variant of an orientation (R6). -/
def CfgData.xpMask (c : CfgData) : Orient → List Nat
  | .normal => c.xpMaskN
  | .swapped => c.xpMaskS

/-- `LEN(v)`: the length of a variant's marker (R6). -/
def CfgData.markerLen (c : CfgData) (v : Variant) : Nat := (c.marker.get v).length

/-- `SEEK_WINDOW`: the largest stride in `CFG.PRIORITY` (R6). -/
def CfgData.seekWindow (c : CfgData) : Nat := (c.priority.map Variant.stride).foldr max 0

end Sys2Proof
end

