-- ==== Sys2Proof/WellFormed.lean ====
section
/-! DEFINITION. When a configuration record is well formed: W1 to W5 of R7 and X1 to X4 of R166. (A command needs no
check of its own: every term of `Instr` is a legal command, and an illegal byte is refused by the decoder.) -/

namespace Sys2Proof

/-- W1: both seeds have 8 bytes (R7). -/
def CfgData.seedsWf (c : CfgData) : Bool :=
  c.seedN.length == seedLen && c.seedS.length == seedLen

/-- W2: `8 <= LEN(v) <= STRIDE(v)` for every variant (R7). -/
def CfgData.markersWf (c : CfgData) : Bool :=
  Variant.all.all fun v => decide (seedLen ≤ c.markerLen v) && decide (c.markerLen v ≤ v.stride)

/-- W3: the priority list is not empty and repeats no variant (R7). -/
def CfgData.priorityWf (c : CfgData) : Bool :=
  !c.priority.isEmpty && decide c.priority.Nodup

/-- One entry of a pixel map reads a byte that every frame has (W5, X2) and that is no audio byte (X4). -/
def PixSrc.wf (e : PixSrc) : Bool :=
  decide (e.src < strideMin) && e.src % audPeriod != 0

theorem PixSrc.wf_iff (e : PixSrc) : e.wf = true ↔ e.src < strideMin ∧ e.src % audPeriod ≠ 0 := by
  simp [PixSrc.wf]

/-- A pixel map has an entry for each of the 34560 output bytes (X1), each of them well formed (R166). X3 holds by
the type of `sel`, X5 because the table depends on nothing else. -/
def pixmapWf (t : List PixSrc) : Bool :=
  t.length == pixBytes && t.all PixSrc.wf

/-- The three pixel maps are well formed (R7 W5, R166). -/
def CfgData.pixmapsWf (c : CfgData) : Bool :=
  pixmapWf c.pixmap.monochrome && pixmapWf c.pixmap.color && pixmapWf c.pixmap.colorXP

/-- `CFG` is well formed (R7, R166). W4 (mask positions are natural numbers) holds by the type. -/
def CfgData.wf (c : CfgData) : Bool :=
  c.seedsWf && c.markersWf && c.priorityWf && c.pixmapsWf

end Sys2Proof
end

