-- ==== Sys2Proof/Config.lean ====
section
/-! DEFINITION. What a build fixes and what the spec leaves open: the checked configuration record, and the opaque
constants no proof can see the value of. -/

namespace Sys2Proof

/-- A record whose only use is to show that a well-formed one exists, which Lean asks for before `Config.cfg` may be
declared. It is not the value of `Config.cfg`. -/
def CfgData.placeholder : CfgData where
  priority := [.colorN, .colorS, .xpN, .xpS]
  seedN := List.replicate 8 1
  seedS := List.replicate 8 2
  marker :=
    { monoN := List.replicate 8 1, monoS := List.replicate 8 2, colorN := List.replicate 8 1
      colorS := List.replicate 8 2, xpN := List.replicate 8 1, xpS := List.replicate 8 2 }
  xpMaskN := []
  xpMaskS := []
  pixmap :=
    { monochrome := List.replicate pixBytes ⟨1, .hi⟩, color := List.replicate pixBytes ⟨1, .hi⟩
      colorXP := List.replicate pixBytes ⟨1, .hi⟩ }

theorem pixmapWf_replicate (n : Nat) (h : n = pixBytes) (e : PixSrc) (he : e.wf = true) :
    pixmapWf (List.replicate n e) = true := by
  simp [pixmapWf, h, he]

theorem CfgData.placeholder_wf : CfgData.placeholder.wf = true := by
  have h : pixmapWf (List.replicate pixBytes ⟨1, .hi⟩) = true := pixmapWf_replicate _ rfl _ rfl
  simp only [CfgData.wf, CfgData.pixmapsWf, CfgData.placeholder, h]
  rfl

/-- The configuration record with the proof that it is well formed: a record that is not cannot be given to the
machine (R7: "a model refuses any other"). DEDUCED, log entry 1. -/
structure Cfg where
  data : CfgData := CfgData.placeholder
  ok : data.wf = true := by exact CfgData.placeholder_wf
deriving DecidableEq, Repr, Inhabited

/-- A record is accepted when it is well formed and refused when it is not (R7). -/
def Cfg.ofData? (c : CfgData) : Option Cfg :=
  if h : c.wf = true then some ⟨c, h⟩ else none

/-- The `CFG` of the block as it leaves reset: some well-formed record, the spec does not say which (R6, D7, D16). DEDUCED,
log entry 1. -/
opaque Config.cfg : Cfg

/-- The byte of the ByteSource at an offset the state does not list: the capture belongs to the caller and the spec
gives no byte of it (R60). DESIGN CHOICE, log entry 4. -/
opaque Config.sourceByte : Nat → Byte

/-- The value drawn for a buffer byte that nothing has written since reset, from the number of the draw and the byte's
index (R36, U4, U9). DESIGN CHOICE, log entry 5. -/
opaque Config.freeByte : Nat → Nat → Byte

end Sys2Proof
end

