-- ==== Sys2Proof/Machine/State.lean ====
section
/-! DEFINITION. The state of VNCORE (R20), what a step can stop with, and the state after reset (R36). -/

namespace Sys2Proof.Machine

/-- A byte space as the bytes it holds: (index, byte) pairs, indices strictly rising. An index that is not listed
holds no byte yet (R36). -/
abbrev Memory := List Host.Cell

/-- The walker state (R28, R190). Codes 5, 6, 7 have no constructor (V3). -/
inductive Wst where
  | seeking | locked | resyncing | exhausted | failed
deriving DecidableEq, Repr

/-- The value of `CAUSE` (R30, R245). Codes 5, 6, 7 have no constructor (V3). -/
inductive Cause where
  /-- 0: no condition has ended the pass. -/
  | clear
  | notFound | exhausted | lengthPrecondition | illegalCommand
deriving DecidableEq, Repr

/-- The four host-port spaces, 0 to 3 (R34, R88). -/
inductive Space where
  | reg | frame | audio | pixel
deriving DecidableEq, Repr

/-- What reaches the block from outside: a host write or read (R88), or reset (R270). -/
inductive PortEvent where
  /-- `HostWrite(space, index, data)` -/
  | write (space : Space) (index : BitVec 16) (data : Word)
  /-- `HostRead(space, index)` -/
  | read (space : Space) (index : BitVec 16)
  /-- The reset input. -/
  | reset
deriving DecidableEq, Repr

/-- Why the machine stops. -/
inductive Fault where
  /-- Raised by `step` when something reaches the port while `BUSY` is 1 (U5: the model is stuck). Safe: the model has
  no move where the spec defines none, and no state with `BUSY` = 1 follows from one with `BUSY` = 0. -/
  | portAccessWhileBusy
deriving DecidableEq, Repr

/-- Why the model has no meaning for an instruction. -/
inductive Refusal where
  /-- Raised by `exec` for an instruction that has no meaning yet; no arm raises it now. Safe. -/
  | notModelled (mnemonic : String)
deriving DecidableEq, Repr

/-- Everything VNCORE holds (R20 to R33), the two parameters of every step (`cfg`, `src`), and the model's own
host-side fields (`port`, `readData`, `draws`). `CMD` holds nothing (R24), and `STATUS` is a view of `wst` and the
flags (R26). -/
structure State where
  /-- `CFG`, constant for the life of the block (R6). No step writes it. DEDUCED, log entry 1. -/
  cfg : Cfg
  /-- The ByteSource's bytes, where they are listed (R60). No step writes it. DESIGN CHOICE, log entry 4. -/
  src : Memory
  /-- `SRC_LEN`, index 0x03 (R25). -/
  srcLen : Word
  /-- `START`, index 0x04 (R22). -/
  start : Word
  /-- `LS`, index 0x05 (R22). -/
  ls : Word
  /-- `LL`, index 0x06 (R22). -/
  ll : Word
  /-- `LOC_OFF`, index 0x07 (R22). -/
  locOff : Word
  /-- `LOC_VAR`, index 0x08 (R22). Codes 6 and 7 are never produced (V2). -/
  locVar : Variant
  /-- `CUR_OFF`, index 0x09 (R22). -/
  curOff : Word
  /-- `CUR_VAR`, index 0x0A (R22). -/
  curVar : Variant
  /-- `EXPECTED`, index 0x0B (R22, R27). -/
  expected : Word
  /-- `DRIFT`, index 0x0C (R22). -/
  drift : Word
  /-- `COUNT`, index 0x0D (R22). -/
  count : Word
  /-- `FRAME_LEN`, index 0x0E (R22). -/
  frameLen : Word
  /-- `AUDIO_LEN`, index 0x0F (R22). -/
  audioLen : Word
  /-- `STATUS.WST` (R26, R28). -/
  wst : Wst
  /-- `CAUSE`, index 0x02 (R30). -/
  cause : Cause
  /-- `STATUS.BUSY` (R26): never 1 where commands are atomic steps (R278). DEDUCED, log entry 3. -/
  busy : Bool
  /-- `STATUS.LOC_FOUND` (R26). -/
  locFound : Bool
  /-- `STATUS.SEED_N_HIT` (R26). -/
  seedNHit : Bool
  /-- `STATUS.SEED_S_HIT` (R26). -/
  seedSHit : Bool
  /-- `STATUS.EMIT` (R26). -/
  emit : Bool
  /-- `STATUS.CUR_VALID` (R26). -/
  curValid : Bool
  /-- `STATUS.ALIGNED` (R26). -/
  aligned : Bool
  /-- `STATUS.OUT_VALID` (R26). -/
  outValid : Bool
  /-- `FRAME`, 19760 bytes (R31). -/
  frame : Memory
  /-- `AUDIO`, 1976 bytes (R32). -/
  audio : Memory
  /-- `PIXEL`, 34560 bytes (R33). -/
  pixel : Memory
  /-- The model's own: what the host will still do at the port, first to come first (R68, R88). DESIGN CHOICE, log
  entry 2. -/
  port : List PortEvent
  /-- The model's own: the data of the last `HostRead` (R88). DESIGN CHOICE, log entry 6. -/
  readData : Word
  /-- The model's own: how many times a value has been drawn for bytes nothing has written (U4, U9). DESIGN CHOICE, log
  entry 5. -/
  draws : Nat
deriving DecidableEq, Repr

/-- The machine right after reset: Seeking, every register and flag zero, no byte in any buffer (R36, R271), nothing
waiting at the port. -/
def State.reset : State where
  cfg := Config.cfg
  src := []
  srcLen := 0
  start := 0
  ls := 0
  ll := 0
  locOff := 0
  locVar := .monoN
  curOff := 0
  curVar := .monoN
  expected := 0
  drift := 0
  count := 0
  frameLen := 0
  audioLen := 0
  wst := .seeking
  cause := .clear
  busy := false
  locFound := false
  seedNHit := false
  seedSHit := false
  emit := false
  curValid := false
  aligned := false
  outValid := false
  frame := []
  audio := []
  pixel := []
  port := []
  readData := 0
  draws := 0

end Sys2Proof.Machine
end

