-- ==== Sys2Proof/Machine/Ops.lean ====
section
/-! DEFINITION. The shared operations: byte spaces, a raise (R246) and the return from one (R231, R249), and the named
updates of the state. -/

namespace Sys2Proof.Machine

/-! ### Byte spaces -/

/-- The canonical form: indices strictly rising. There is no further condition, because an index that is not listed
holds no byte at all (R36). -/
abbrev Memory.wf (m : Memory) : Prop := m.Pairwise fun x y => x.1 < y.1

/-- Every listed index lies below the space's size. -/
abbrev Memory.within (m : Memory) (size : Nat) : Prop := ∀ c ∈ m, c.1 < size

/-- The cells from index `a` on. -/
def Memory.skip : Memory → Nat → Memory
  | [], _ => []
  | c :: t, a => if c.1 < a then Memory.skip t a else c :: t

/-- The byte at an index, if it holds one. -/
def Memory.read : Memory → Nat → Option Byte
  | [], _ => none
  | c :: t, a => if c.1 < a then Memory.read t a else if c.1 = a then some c.2 else none

/-- One byte written (R73). -/
def Memory.write : Memory → Nat → Byte → Memory
  | [], a, b => [(a, b)]
  | c :: t, a, b =>
    if c.1 < a then c :: Memory.write t a b else if c.1 = a then (a, b) :: t else (a, b) :: c :: t

/-- The `n` bytes from index `a` on, in one walk over the cells; `fill` says what an index that holds no byte reads
as. -/
def Memory.block (fill : Nat → Byte) : Memory → Nat → Nat → List Byte
  | _, _, 0 => []
  | m, a, n + 1 =>
    ((Memory.read (Memory.skip m a) a).getD (fill a)) :: Memory.block fill (Memory.skip m a) (a + 1) n

/-- The cells of a byte sequence that starts at index `a`. -/
def Memory.cellsFrom : Nat → List Byte → Memory
  | _, [] => []
  | a, b :: bs => (a, b) :: Memory.cellsFrom (a + 1) bs

/-- A byte sequence written from index 0 on; the bytes behind it keep their values (R147, R148). -/
def Memory.writePrefix (m : Memory) (bs : List Byte) : Memory :=
  Memory.cellsFrom 0 bs ++ Memory.skip m bs.length

/-! ### The ByteSource -/

/-- `SRC[a]`: a byte for every offset (R60). -/
def State.srcByte (s : State) (a : Nat) : Byte := (Memory.read s.src a).getD (Config.sourceByte a)

/-! ### Raise and return -/

/-- The walker state a cause leads to (R246). -/
def Cause.endState : Cause → Wst
  | .exhausted => .exhausted
  | _ => .failed

/-- `raise X`: the block's whole trap mechanism (R246). The command that raises makes no other write. -/
def raise (x : Cause) (s : State) : State :=
  { s with cause := x, wst := x.endState, emit := false, outValid := false }

/-- The start of a new pass, which is also the return from Exhausted and Failed: INIT's writes (R231, R249). -/
def startPass (s : State) : State :=
  { s with
    wst := .seeking, cause := .clear
    curOff := 0, curVar := .monoN, expected := 0, drift := 0, count := 0
    emit := false, curValid := false, aligned := false, outValid := false }

/-- A command is ignored while `WST` is Failed (R247 (1), R249). NOP and INIT do not pass through here. -/
def unlessFailed (s : State) (act : State → State) : State :=
  if s.wst = .failed then s else act s

/-! ### Named updates -/

/-- PROBE's writes (R109). -/
def State.setSeedHits (s : State) (n sw : Bool) : State := { s with seedNHit := n, seedSHit := sw }

/-- The writes of a LOCATE or MATCH that succeeds (R110, R126). -/
def State.setLocated (s : State) (p : Word) (v : Variant) : State :=
  { s with locFound := true, locOff := p, locVar := v }

/-- The write of a LOCATE or MATCH that does not: `LOC_OFF` and `LOC_VAR` keep their values (R110, R126). -/
def State.setNotLocated (s : State) : State := { s with locFound := false }

/-- FETCH's writes: the frame's bytes and their number (R147). -/
def State.setFrame (s : State) (bs : List Byte) : State :=
  { s with frame := s.frame.writePrefix bs, frameLen := BitVec.ofNat 32 bs.length }

/-- DECODE's writes: the DecodedFrame and `OUT_VALID` (R148). The counter of draws moves on, so that a byte of FRAME
that holds no value is drawn afresh the next time (U4). -/
def State.setDecoded (s : State) (audio pixels : List Byte) : State :=
  { s with
    audio := s.audio.writePrefix audio, audioLen := BitVec.ofNat 32 audio.length
    pixel := s.pixel.writePrefix pixels, outValid := true, draws := s.draws + 1 }

/-- What is left at the port after its first event has been taken. -/
def State.withPort (s : State) (rest : List PortEvent) : State := { s with port := rest }

end Sys2Proof.Machine
end

