-- ==== Sys2Proof/Machine/System.lean ====
section
/-! DEFINITION. The system commands NOP (R230) and INIT (R231), the illegal byte (R84), and the reset input (R270). -/

namespace Sys2Proof.Machine

/-- NOP: no state changes, in every walker state (R230). -/
def execNop (s : State) : Host.Outcome State Fault Refusal := .next s

/-- INIT: begin a new pass, in every walker state, Failed included (R231). -/
def execInit (s : State) : Host.Outcome State Fault Refusal := .next (startPass s)

/-- An illegal command byte raises `IllegalCommand`; while `WST` is Failed it is ignored (R84, R247, R249). -/
def illegalCommand (s : State) : Host.Outcome State Fault Refusal :=
  .next (unlessFailed s (raise .illegalCommand))

/-- The reset input: registers and flags at R36's values, the buffers without content; `CFG` and the source are not
touched (R270). The host's side of the port is not the block's to reset (DESIGN CHOICE, log entry 7). -/
def resetBlock (s : State) : State :=
  { State.reset with cfg := s.cfg, src := s.src, port := s.port, readData := s.readData, draws := s.draws }

end Sys2Proof.Machine
end

