-- ==== Sys2Proof/Machine/Operands.lean ====
section
/-! DEFINITION. The operand forms: the source window (`MemRead`, R62), the registers used as absolute offsets (R82),
and the frame buffer's valid bytes (R148). -/

namespace Sys2Proof.Machine

/-- `MemRead(addr, n)`: the window, or nothing when it runs past the end of the source. The sum does not wrap (R62). -/
def memRead (s : State) (addr n : Nat) : Option (List Byte) :=
  if addr + n ≤ s.srcLen.toNat then some (Memory.block Config.sourceByte s.src addr n) else none

/-- `LS`, the offset of PROBE and MATCH and the `searchStart` of LOCATE (R22, R82). -/
def lsOperand (s : State) : Nat := s.ls.toNat

/-- `LL`, the `searchLimit` of LOCATE, exclusive (R22, R82). -/
def llOperand (s : State) : Nat := s.ll.toNat

/-- `START`, the `searchStart` of the Seeking scan (R22). -/
def startOperand (s : State) : Nat := s.start.toNat

/-- `EXPECTED`, the offset at which the walker looks next (R22, R27). -/
def expectedOperand (s : State) : Nat := s.expected.toNat

/-- `FRAME[0..FRAME_LEN)`, DECODE's operand. A byte nothing has written since reset is drawn: any value (U4). -/
def frameOperand (s : State) : List Byte :=
  Memory.block (Config.freeByte s.draws) s.frame 0 s.frameLen.toNat

end Sys2Proof.Machine
end

