-- ==== Sys2Proof/Machine/Decoder.lean ====
section
/-! DEFINITION. The frame decoder: the byte reorders (R141 to R143), the audio demultiplexer (R144), the pixel
demultiplexer and row mirror (R160 to R168), and the commands FETCH (R147) and DECODE (R148). -/

namespace Sys2Proof.Machine

/-- `pairswap(x)`: bytes `2k` and `2k+1` exchanged (R141). Every frame has even length; an odd last byte, which the
rule does not speak of, would stay (DESIGN CHOICE, log entry 11). -/
def pairSwap : List Byte → List Byte
  | a :: b :: t => b :: a :: pairSwap t
  | x => x

/-- `canon(v, F)`: the frame in Swapped orientation (R143). -/
def canon (v : Variant) (f : List Byte) : List Byte :=
  match v.orient with
  | .normal => pairSwap f
  | .swapped => f

/-- `audio_of(C)`: byte `9 + 10j` of the canonical frame, for `j < S/10` (R144). The default is never taken. -/
def audioOf (f : List Byte) : List Byte :=
  (List.range (f.length / audPeriod)).map fun j => f[9 + audPeriod * j]?.getD 0

/-- `expand_hi(b)` (R161). -/
def expandHi (b : Byte) : Byte := (b &&& 0xF0) ||| (b >>> 4)

/-- `expand_lo(b)`, kept to 8 bits (R162). -/
def expandLo (b : Byte) : Byte := (b &&& 0x0F) ||| ((b <<< 4) &&& 0xF0)

/-- The expansion a map entry asks for (R167). -/
def expand : Nibble → Byte → Byte
  | .hi => expandHi
  | .lo => expandLo

/-- `demux(m, R)`: output byte `o` is built from the byte of the reversed buffer that the map names (R167). The
default is never taken: a well-formed map stays inside both strides (X2). -/
def demux (table : List PixSrc) (r : List Byte) : List Byte :=
  let a := r.toArray
  table.map fun e => expand e.sel (a[e.src]?.getD 0)

/-- `rowmirror(P)`: each 432-byte row reversed byte by byte (R168; log entry 10). The default is never taken (log
entry 11). -/
def rowMirror (p : List Byte) : List Byte :=
  let a := p.toArray
  (List.range pixBytes).map fun o => a[rowBytes * (o / rowBytes) + (rowBytes - 1 - o % rowBytes)]?.getD 0

/-- The pixel half of `decode(v, F)`: canonical frame, full reversal, demultiplexer, row mirror (R140, R160). -/
def pixelsOf (c : CfgData) (v : Variant) (f : List Byte) : List Byte :=
  rowMirror (demux (c.pixmap.get v.mode) (canon v f).reverse)

/-- `decode(v, F)`, for a frame of `STRIDE(v)` bytes: the audio and the pixel sequence (R140). -/
def decodeFrame (c : CfgData) (v : Variant) (f : List Byte) : List Byte × List Byte :=
  (audioOf (canon v f), pixelsOf c v f)

/-- FETCH's effect where it is not ignored: `CUR_VALID` is checked before the read (R147, R247). -/
def fetchStep (s : State) : State :=
  if s.curValid then
    match memRead s s.curOff.toNat s.curVar.stride with
    | none => raise .lengthPrecondition s
    | some w => s.setFrame w
  else raise .illegalCommand s

/-- DECODE's effect where it is not ignored (R148). -/
def decodeStep (v : Variant) (s : State) : State :=
  if s.frameLen.toNat = v.stride then
    s.setDecoded (decodeFrame s.cfg.data v (frameOperand s)).1 (decodeFrame s.cfg.data v (frameOperand s)).2
  else raise .lengthPrecondition s

/-- FETCH (R147). -/
def execFetch (s : State) : Host.Outcome State Fault Refusal :=
  .next (unlessFailed s fetchStep)

/-- DECODE v (R148). -/
def execDecode (v : Variant) (s : State) : Host.Outcome State Fault Refusal :=
  .next (unlessFailed s (decodeStep v))

end Sys2Proof.Machine
end

