-- ==== Sys2Proof/Decode.lean ====
section
/-! DEFINITION. The variant codes (R83), the command byte's decoder and encoder (R80, R81, R84), and the host's
reading of a table row. -/

namespace Sys2Proof

/-- The 3-bit code of a variant (R83). -/
def Variant.code : Variant → BitVec 3
  | .monoN => 0
  | .monoS => 1
  | .colorN => 2
  | .colorS => 3
  | .xpN => 4
  | .xpS => 5

/-- The variant a code names; 6 and 7 are reserved (R83). -/
def Variant.ofCode? (c : BitVec 3) : Option Variant :=
  match c.toNat with
  | 0 => some .monoN
  | 1 => some .monoS
  | 2 => some .colorN
  | 3 => some .colorS
  | 4 => some .xpN
  | 5 => some .xpS
  | _ => none

/-- `op`, bits 7:4 of a command byte (R80). -/
def opField (b : Byte) : BitVec 4 := b.extractLsb' 4 4

/-- `z`, bit 3 of a command byte (R80). -/
def zField (b : Byte) : Bool := b.getLsbD 3

/-- `var`, bits 2:0 of a command byte (R80). -/
def varField (b : Byte) : BitVec 3 := b.extractLsb' 0 3

/-- A command without a variant: `var` must be 0 (R80). -/
def decodePlain (b : Byte) (i : Instr) : Except Illegal Instr :=
  if varField b = 0 then .ok i else .error .varNotZero

/-- A command with a variant: `var` must be 0 to 5 (R80, R83). -/
def decodeWithVariant (b : Byte) (mk : Variant → Instr) : Except Illegal Instr :=
  match Variant.ofCode? (varField b) with
  | some v => .ok (mk v)
  | none => .error .reservedVariant

/-- The decoder of R81: every byte is one command or illegal. -/
def decode (b : Byte) : Except Illegal Instr :=
  if zField b then .error .bit3Set
  else match (opField b).toNat with
    | 0 => decodePlain b .nop
    | 1 => decodePlain b .init
    | 2 => decodePlain b .probe
    | 3 => decodeWithVariant b .matchV
    | 4 => decodePlain b .locate
    | 5 => decodePlain b .fetch
    | 6 => decodeWithVariant b .decodeV
    | 7 => decodePlain b .wstep
    | 8 => decodePlain b .next
    | _ => .error .reservedOp

/-- A command byte from its fields, bit 3 zero (R80). -/
def commandByte (op : BitVec 4) (var : BitVec 3) : Byte := op ++ (0 : BitVec 1) ++ var

/-- The byte of each command, from the opcode map (R81). -/
def encode : Instr → Byte
  | .nop => commandByte 0x0 0
  | .init => commandByte 0x1 0
  | .probe => commandByte 0x2 0
  | .matchV v => commandByte 0x3 v.code
  | .locate => commandByte 0x4 0
  | .fetch => commandByte 0x5 0
  | .decodeV v => commandByte 0x6 v.code
  | .wstep => commandByte 0x7 0
  | .next => commandByte 0x8 0

/-- The command the decoder reads from a table row's bits (bit 0 least significant; every bit from `nbits` up is 0).
Every command is one byte (R85), so `nbits` is 8. -/
def decodeTableWord (nbits w : Nat) : Option Instr :=
  match decode (BitVec.ofNat 8 (w % 2 ^ nbits)) with
  | .ok i => some i
  | .error _ => none

end Sys2Proof
end

