-- ==== Sys2Proof/Machine/Flags.lean ====
section
/-! DEFINITION. The flags and status codes: the sector-aligned fact (R127), the codes of `WST` (R28) and `CAUSE`
(R245), and the status word (R26). -/

namespace Sys2Proof.Machine

/-- `aligned(p)`: the offset is a multiple of the sector size (R127). -/
def alignedAt (p : Nat) : Bool := p % sector == 0

/-- The code of a walker state (R28). -/
def Wst.code : Wst → BitVec 3
  | .seeking => 0
  | .locked => 1
  | .resyncing => 2
  | .exhausted => 3
  | .failed => 4

/-- The code of a cause (R245). -/
def Cause.code : Cause → BitVec 3
  | .clear => 0
  | .notFound => 1
  | .exhausted => 2
  | .lengthPrecondition => 3
  | .illegalCommand => 4

/-- `STATUS`, from bit 31 down to bit 0; bits 31:11 read as zero (R26, V4). -/
def statusWord (s : State) : Word :=
  (0 : BitVec 21) ++ BitVec.ofBool s.outValid ++ BitVec.ofBool s.aligned ++ BitVec.ofBool s.curValid
    ++ BitVec.ofBool s.emit ++ BitVec.ofBool s.seedSHit ++ BitVec.ofBool s.seedNHit
    ++ BitVec.ofBool s.locFound ++ BitVec.ofBool s.busy ++ s.wst.code

end Sys2Proof.Machine
end

