-- ==== Sys2Proof/Machine/Matcher.lean ====
section
/-! DEFINITION. The masked pattern matcher: the seed probe, the mask and the masked compare (R100 to R108), and the
commands PROBE (R109) and MATCH (R110). -/

namespace Sys2Proof.Machine

/-- `probe(p)`: whether the 8 bytes at `p` are the normal seed, and whether they are the swapped one (R100). -/
def probe (s : State) (p : Nat) : Bool × Bool :=
  match memRead s p seedLen with
  | none => (false, false)
  | some w => (w == s.cfg.data.seedN, w == s.cfg.data.seedS)

/-- `seedhit(p)` (R101). -/
def seedHit (s : State) (p : Nat) : Bool := (probe s p).1 || (probe s p).2

/-- Whether `i` is in `maskpos(v, len)` (R102; R103 for an XP variant). -/
def maskPos (c : CfgData) (v : Variant) (len i : Nat) : Bool :=
  match v.mode with
  | .colorXP => decide (i < len) && (c.xpMask v.orient).contains i
  | .monochrome | .color =>
    decide (v.orient.audStart ≤ i) && decide (i < len) && (i - v.orient.audStart) % audPeriod == 0

/-- `mask(v, x)`: the bytes at the mask positions zeroed, the others unchanged (R104). -/
def mask (c : CfgData) (v : Variant) (x : List Byte) : List Byte :=
  x.mapIdx fun i b => if maskPos c v x.length i then 0 else b

/-- `match(v, p)`: both the window and the marker are masked before they are compared (R106, R107). -/
def matchesAt (s : State) (v : Variant) (p : Nat) : Bool :=
  match memRead s p (s.cfg.data.markerLen v) with
  | none => false
  | some w => mask s.cfg.data v w == mask s.cfg.data v (s.cfg.data.marker.get v)

/-- PROBE's effect where it is not ignored (R109). -/
def probeStep (s : State) : State :=
  s.setSeedHits (probe s (lsOperand s)).1 (probe s (lsOperand s)).2

/-- MATCH's effect where it is not ignored (R110). -/
def matchStep (v : Variant) (s : State) : State :=
  if matchesAt s v (lsOperand s) then s.setLocated s.ls v else s.setNotLocated

/-- PROBE (R109). -/
def execProbe (s : State) : Host.Outcome State Fault Refusal :=
  .next (unlessFailed s probeStep)

/-- MATCH v (R110). -/
def execMatch (v : Variant) (s : State) : Host.Outcome State Fault Refusal :=
  .next (unlessFailed s (matchStep v))

end Sys2Proof.Machine
end

