-- ==== Sys2Proof/Machine/Locator.lean ====
section
/-! DEFINITION. The variant classifier (R120 to R122), the frame locator (R123) and the command LOCATE (R126). -/

namespace Sys2Proof.Machine

/-- `classify(p)`: the first variant of `CFG.PRIORITY` whose masked marker stands at `p` (R120). -/
def classify (s : State) (p : Nat) : Option Variant :=
  s.cfg.data.priority.find? fun v => matchesAt s v p

/-- What the locator finds at the one offset `p`: a seed of either kind, then any variant of the list (R122, R123). -/
def markerAt (s : State) (p : Nat) : Option Variant :=
  if seedHit s p then classify s p else none

/-- The machine with the source's cells below an offset left out: nothing at or beyond the offset reads differently. -/
def State.fromOffset (s : State) (p : Nat) : State := { s with src := Memory.skip s.src p }

/-- The scan of R123 from `p` on, over at most `n` offsets. It moves forward only, so it lets go of the cells it has
passed. -/
def scan (limit : Nat) : Nat → Nat → State → Option (Nat × Variant)
  | 0, _, _ => none
  | n + 1, p, s =>
    if p < limit then
      match markerAt s p with
      | some v => some (p, v)
      | none => scan limit n (p + 1) (s.fromOffset (p + 1))
    else none

/-- `locate(start, limit)` (R123): `none` is NotFound. No offset at or beyond the source's end can hit, so the scan
looks at those below it only (R124 c; DEDUCED, log entry 12). -/
def locate (s : State) (start limit : Nat) : Option (Nat × Variant) :=
  scan limit (s.srcLen.toNat - start) start s

/-- LOCATE's effect where it is not ignored (R126). -/
def locateStep (s : State) : State :=
  match locate s (lsOperand s) (llOperand s) with
  | some (p, v) => s.setLocated (BitVec.ofNat 32 p) v
  | none => s.setNotLocated

/-- LOCATE (R126). -/
def execLocate (s : State) : Host.Outcome State Fault Refusal :=
  .next (unlessFailed s locateStep)

end Sys2Proof.Machine
end

