-- ==== Sys2Proof/Machine/Walker.lean ====
section
/-! DEFINITION. The resynchronization stride walker: accept and the whole-frame check (R192, R193), one rule per
walker state (R194 to R197), and the commands WSTEP and NEXT (R200). -/

namespace Sys2Proof.Machine

/-- `accept(p, v, d)`: record a located frame and emit its tuple (R192). -/
def accept (p : Nat) (v : Variant) (d : Nat) (s : State) : State :=
  { s with
    curOff := BitVec.ofNat 32 p, curVar := v
    expected := BitVec.ofNat 32 (p + v.stride), drift := BitVec.ofNat 32 d
    aligned := alignedAt p, count := s.count + 1
    curValid := true, emit := true, wst := .locked }

/-- The whole frame of a match at `p` lies in the source (R193). -/
def wholeFrame (s : State) (p : Nat) (v : Variant) : Bool := decide (p + v.stride ≤ s.srcLen.toNat)

/-- A hop that fails: only `WST` and `EMIT` change (R195). -/
def hopMissed (s : State) : State := { s with emit := false, wst := .resyncing }

/-- `EMIT <- 0`, all that WSTEP does in Exhausted (R197). -/
def clearEmit (s : State) : State := { s with emit := false }

/-- NEXT delivers no frame: `OUT_VALID <- 0` (R200). -/
def clearOut (s : State) : State := { s with outValid := false }

/-- WSTEP in Seeking (R194). -/
def stepSeeking (s : State) : State :=
  match locate s (startOperand s) (startOperand s + s.cfg.data.seekWindow) with
  | some (p, v) => if wholeFrame s p v then accept p v 0 s else raise .notFound s
  | none => raise .notFound s

/-- WSTEP in Locked: the hop (R195). -/
def stepLocked (s : State) : State :=
  match locate s (expectedOperand s) (expectedOperand s + 1) with
  | some (p, v) => if wholeFrame s p v then accept p v 0 s else raise .exhausted s
  | none => hopMissed s

/-- WSTEP in Resyncing: the forward scan, the drift taken from the old `EXPECTED` (R196). -/
def stepResyncing (s : State) : State :=
  match locate s (expectedOperand s) s.srcLen.toNat with
  | some (q, v) => if wholeFrame s q v then accept q v (q - expectedOperand s) s else raise .exhausted s
  | none => raise .exhausted s

/-- One transition of the walker (R194 to R197, R199). -/
def walkStep (s : State) : State :=
  match s.wst with
  | .seeking => stepSeeking s
  | .locked => stepLocked s
  | .resyncing => stepResyncing s
  | .exhausted => clearEmit s
  | .failed => s

/-- NEXT's repeat ends here: a frame was emitted, or the walk has ended (R200). -/
def walkDone (s : State) : Bool := s.emit || s.wst = .exhausted || s.wst = .failed

/-- NEXT's repeat of WSTEP, at most `n` times. -/
def walkUntil : Nat → State → State
  | 0, s => s
  | n + 1, s => if walkDone (walkStep s) then walkStep s else walkUntil n (walkStep s)

/-- NEXT after a frame was emitted: FETCH, then DECODE with the frame's variant; a raise in FETCH ends it (R200). -/
def deliver (s : State) : State :=
  unlessFailed (fetchStep s) (decodeStep s.curVar)

/-- NEXT (R200) where it is not ignored. The repeat runs once or twice: after two steps it has always ended
(DEDUCED, log entry 13). -/
def nextStep (s : State) : State :=
  if s.wst = .exhausted then clearOut (clearEmit s)
  else if (walkUntil 2 s).emit then deliver (walkUntil 2 s) else clearOut (walkUntil 2 s)

/-- WSTEP (R194 to R197). -/
def execWstep (s : State) : Host.Outcome State Fault Refusal :=
  .next (unlessFailed s walkStep)

/-- NEXT (R200). -/
def execNext (s : State) : Host.Outcome State Fault Refusal :=
  .next (unlessFailed s nextStep)

end Sys2Proof.Machine
end

