-- ==== Sys2Proof/Machine/Dispatch.lean ====
section
/-! DEFINITION. One arm per command. -/

namespace Sys2Proof.Machine

def exec (i : Instr) (s : State) : Host.Outcome State Fault Refusal :=
  match i with
  | .nop => Sys2Proof.Machine.execNop s
  | .init => Sys2Proof.Machine.execInit s
  | .probe => Sys2Proof.Machine.execProbe s
  | .matchV v => Sys2Proof.Machine.execMatch v s
  | .locate => Sys2Proof.Machine.execLocate s
  | .fetch => Sys2Proof.Machine.execFetch s
  | .decodeV v => Sys2Proof.Machine.execDecode v s
  | .wstep => Sys2Proof.Machine.execWstep s
  | .next => Sys2Proof.Machine.execNext s

end Sys2Proof.Machine
end

