-- ==== Sys2Proof/Machine/HostPort.lean ====
section
/-! DEFINITION. The host port but for commands: register and buffer reads and writes, and what an access to nothing
does (R21, R22, R38, R73, R88). -/

namespace Sys2Proof.Machine

/-- The size of a host-port space: registers, or bytes of a buffer (R34). -/
def Space.size : Space → Nat
  | .reg => 16
  | .frame => frameBytesMax
  | .audio => audioBytesMax
  | .pixel => pixBytes

/-- A register as the host reads it; `CMD` and every index above 0x0F read as 0 (R21, R22, R38). -/
def readRegister (s : State) (index : Nat) : Word :=
  match index with
  | 0x01 => statusWord s
  | 0x02 => s.cause.code.zeroExtend 32
  | 0x03 => s.srcLen
  | 0x04 => s.start
  | 0x05 => s.ls
  | 0x06 => s.ll
  | 0x07 => s.locOff
  | 0x08 => s.locVar.code.zeroExtend 32
  | 0x09 => s.curOff
  | 0x0A => s.curVar.code.zeroExtend 32
  | 0x0B => s.expected
  | 0x0C => s.drift
  | 0x0D => s.count
  | 0x0E => s.frameLen
  | 0x0F => s.audioLen
  | _ => 0

/-- A register write that starts no command: the five `RW` registers take the word, every other index ignores it
(R22, R38). `SRC_LEN` takes it during a pass too (R25; DESIGN CHOICE, log entry 9). -/
def writeRegister (s : State) (index : Nat) (data : Word) : State :=
  match index with
  | 0x03 => { s with srcLen := data }
  | 0x04 => { s with start := data }
  | 0x05 => { s with ls := data }
  | 0x06 => { s with ll := data }
  | 0x0E => { s with frameLen := data }
  | _ => s

/-- The buffer of a space; the register space has none. -/
def State.buffer (s : State) : Space → Memory
  | .reg => []
  | .frame => s.frame
  | .audio => s.audio
  | .pixel => s.pixel

/-- A buffer byte as the host reads it, zero-extended: 0 at or beyond the buffer's size, and a drawn value where the
byte holds none (R38, R88, U9). -/
def readBuffer (s : State) (sp : Space) (index : Nat) : Word :=
  if index < sp.size then
    ((Memory.read (s.buffer sp) index).getD (Config.freeByte s.draws index)).zeroExtend 32
  else 0

/-- `HostRead(space, index)`: the word goes to the host; the counter of draws moves on; nothing else changes (R88). -/
def hostRead (s : State) (sp : Space) (index : Nat) : State :=
  { s with
    readData := if sp = .reg then readRegister s index else readBuffer s sp index
    draws := s.draws + 1 }

/-- `HostWrite(space, index, data)` where it starts no command: FRAME takes data bits 7:0, AUDIO and PIXEL ignore the
write (R38, R73, R88). -/
def hostWrite (s : State) (sp : Space) (index : Nat) (data : Word) : State :=
  match sp with
  | .reg => writeRegister s index data
  | .frame =>
    if index < frameBytesMax then { s with frame := s.frame.write index (data.truncate 8) } else s
  | .audio | .pixel => s

/-- The byte a port event writes to `CMD`: bits 7:0, bits 31:8 ignored (R24, R88). -/
def PortEvent.commandByte? : PortEvent → Option Byte
  | .write .reg index data => if index = 0 then some (data.truncate 8) else none
  | _ => none

/-- A port event that starts no command (R88, R270). -/
def portStep (s : State) : PortEvent → State
  | .write sp index data => hostWrite s sp index.toNat data
  | .read sp index => hostRead s sp index.toNat
  | .reset => resetBlock s

end Sys2Proof.Machine
end

