-- ==== Sys2Proof/Machine/Step.lean ====
section
/-! DEFINITION. One step: the first event waiting at the host port is taken, and a write to `CMD` runs its command as
one atomic step (R14, R24, R68, R278). -/

namespace Sys2Proof.Machine

/-- The command of a byte written to `CMD`, or the cause of an illegal one (R80, R84). -/
def runCommand (b : Byte) (s : State) : Host.Outcome State Fault Refusal :=
  match decode b with
  | .ok i => exec i s
  | .error _ => illegalCommand s

/-- One event at the port. -/
def takeEvent (e : PortEvent) (s : State) : Host.Outcome State Fault Refusal :=
  match e.commandByte? with
  | some b => runCommand b s
  | none => .next (portStep s e)

/-- One step. With nothing at the port the block waits (R270); with `BUSY` = 1 there is no move for the host, but for
reset (U5, R270). DESIGN CHOICE, log entries 2 and 3. -/
def step (s : State) : Host.Outcome State Fault Refusal :=
  match s.port with
  | [] => .next s
  | e :: rest =>
    if s.busy ∧ e ≠ .reset then .fault .portAccessWhileBusy else takeEvent e (s.withPort rest)

/-- `s` with the write of an instruction's byte to `CMD` as the next event at the port, and the port free for it: the
next step runs that command and no other event comes before it. The bits from `nbits` up are zero. DESIGN CHOICE, log
entry 8. -/
def State.withFetchWord (s : State) (nbits w : Nat) : State :=
  { s with port := .write .reg 0 (BitVec.ofNat 32 (w % 2 ^ nbits % 256)) :: s.port, busy := false }

end Sys2Proof.Machine
end

