-- ==== Sys2Proof/Safety.lean ====
section
/-! DEFINITION. What counts as a safe run: the invariants of R37, the host's duty of R279, the named properties of
`CFG` (R8), and running several commands in a row. -/

namespace Sys2Proof.Machine

/-- A walker state that no WSTEP or NEXT leaves (R190). -/
def Wst.terminal : Wst → Bool
  | .exhausted | .failed => true
  | _ => false

/-- The invariants of R37, with the canonical form of the byte spaces and the atomic-step reading of `BUSY` (R278).
I1 holds by the type of `wst`. I8 is about all the frames of a pass, of which a state holds the last: `framesFit` is what
it says of the state alone, and the whole of it is `Walk.Fits` (DEDUCED, log entry 15). -/
structure State.Inv (s : State) : Prop where
  /-- R26, R278. -/
  notBusy : s.busy = false
  /-- I2 -/
  seeking : s.wst = .seeking → s.count = 0 ∧ s.curValid = false ∧ s.cause = .clear
  /-- I3 -/
  walking : s.wst = .locked ∨ s.wst = .resyncing → s.curValid = true ∧ 1 ≤ s.count.toNat ∧ s.cause = .clear
  /-- I4 -/
  located : s.curValid = true →
    s.expected.toNat = s.curOff.toNat + s.curVar.stride ∧ s.expected.toNat ≤ s.srcLen.toNat
      ∧ s.aligned = decide (s.curOff.toNat % 2352 = 0) ∧ s.curVar ∈ s.cfg.data.priority
  /-- I5 -/
  exhaustedCause : s.wst = .exhausted → s.cause = .exhausted
  /-- I5 -/
  failedCause : s.wst = .failed →
    s.cause = .notFound ∨ s.cause = .lengthPrecondition ∨ s.cause = .illegalCommand
  /-- I5 -/
  causeEnds : s.cause ≠ .clear → s.wst = .exhausted ∨ s.wst = .failed
  /-- I6 -/
  failedOut : s.wst = .failed → s.emit = false ∧ s.outValid = false
  /-- I7 -/
  outLen : s.outValid = true → s.audioLen = 1960 ∨ s.audioLen = 1976
  /-- What I8 says of the state alone, and with it R23: no counter wraps. -/
  framesFit : s.curValid = true → s.count.toNat * 19600 ≤ s.expected.toNat
  /-- Nothing is counted before a frame has been located. -/
  countZero : s.curValid = false → s.count = 0
  srcWf : s.src.wf
  frameWf : s.frame.wf ∧ s.frame.within frameBytesMax
  audioWf : s.audio.wf ∧ s.audio.within audioBytesMax
  pixelWf : s.pixel.wf ∧ s.pixel.within pixBytes

/-- The host's duty of R279: what it writes to `SRC_LEN` during a pass is the value that stands there.
DESIGN CHOICE, log entry 19: the span of the duty. R279 says from the INIT or reset that begins a pass to its last
command, and I4 of R37 holds whenever `CUR_VALID` = 1; the premise binds from the first located frame until INIT or reset
clears `CUR_VALID`: not before that frame, and also after Exhausted or Failed, so a host that sets the length of its
next capture before INIT breaks it. -/
def State.HostKeepsSource (s : State) : Prop :=
  ∀ data rest, s.port = .write .reg 0x03 data :: rest → s.curValid = true → data = s.srcLen

/-- The sum of the strides of some frames (I8). -/
def strideSum : List (Nat × Variant) → Nat
  | [] => 0
  | f :: fs => f.2.stride + strideSum fs

/-- What an observer beside the block keeps of a walk, to say I8 of R37: the `START` it began from, and the offset and
variant of every frame located since, newest first. No part of the machine: State does not hold it. -/
structure Walk where
  start : Nat
  frames : List (Nat × Variant)
  deriving DecidableEq, Repr

/-- The observer's record after a step from `s` to `t`: as long as no frame has been located it follows `START`; a
frame is located when `COUNT` moves, and is then the one in `CUR_OFF` and `CUR_VAR` (R192). -/
def Walk.after (w : Walk) (s t : State) : Walk :=
  if t.curValid = false then ⟨t.start.toNat, []⟩
  else if t.count = s.count then w
  else ⟨w.start, (t.curOff.toNat, t.curVar) :: w.frames⟩

/-- I8 of R37: the frames located in the pass do not overlap and lie inside the source, so the sum of their strides is
at most `SRC_LEN - START`, with `START` as Seeking read it: a change during the walk is harmless (R279). -/
structure Walk.Fits (w : Walk) (s : State) : Prop where
  counted : w.frames.length = s.count.toNat
  fresh : s.curValid = false → w = ⟨s.start.toNat, []⟩
  newest : s.curValid = true → w.frames.head? = some (s.curOff.toNat, s.curVar)
  apart : w.frames.Pairwise fun newer older => older.1 + older.2.stride ≤ newer.1
  inside : ∀ f ∈ w.frames, w.start ≤ f.1 ∧ f.1 + f.2.stride ≤ s.srcLen.toNat
  sum : strideSum w.frames ≤ s.srcLen.toNat - w.start

/-- Several commands in a row, stopping where one stops. -/
def execAll : List Instr → State → Host.Outcome State Fault Refusal
  | [], s => .next s
  | i :: is, s =>
    match exec i s with
    | .next t => execAll is t
    | .fault r => .fault r
    | .refused r => .refused r

end Sys2Proof.Machine

namespace Sys2Proof

open Machine (pairSwap mask)

/-- P-SWAP (R8). -/
def CfgData.pSwap (c : CfgData) : Prop :=
  c.seedS = pairSwap c.seedN
    ∧ (c.marker.monoN.length % 2 = 0 → c.marker.monoS = pairSwap c.marker.monoN)
    ∧ (c.marker.colorN.length % 2 = 0 → c.marker.colorS = pairSwap c.marker.colorN)
    ∧ (c.marker.xpN.length % 2 = 0 → c.marker.xpS = pairSwap c.marker.xpN)

/-- The seed of an orientation (R6). -/
def CfgData.seedOf (c : CfgData) : Orient → List Byte
  | .normal => c.seedN
  | .swapped => c.seedS

/-- P-PREFIX (R8). -/
def CfgData.pPrefix (c : CfgData) : Prop :=
  ∀ v ∈ c.priority, (c.marker.get v).take seedLen = c.seedOf v.orient

/-- P-NONZERO (R8). -/
def CfgData.pNonzero (c : CfgData) : Prop :=
  (∀ v ∈ c.priority, ∃ b ∈ mask c v (c.marker.get v), b ≠ 0)
    ∨ ((∃ b ∈ c.seedN, b ≠ 0) ∧ ∃ b ∈ c.seedS, b ≠ 0)

/-- The payload slots of a variant's marker as R102 and R103 list them: every tenth byte from 8 (Normal) or 9 (Swapped),
or the XP mask array. -/
def maskedSlot (c : CfgData) (v : Variant) (i : Nat) : Prop :=
  match v with
  | .monoN | .colorN => ∃ j, i = 8 + 10 * j
  | .monoS | .colorS => ∃ j, i = 9 + 10 * j
  | .xpN => i ∈ c.xpMaskN
  | .xpS => i ∈ c.xpMaskS

end Sys2Proof
end

