-- ==== Sys2Proof/Certificates/Slice0/Obligations.lean ====
section
/-! DEFINITION. The statements for the provers. Each is a rule of the spec, or follows from the rules its entry in
OBLIGATIONS.json cites. -/

open Sys2Proof Sys2Proof.Machine

/-! ### Reset -/

/-- R36: Seeking, no cause, every register and flag zero; no byte of a buffer holds a value, so a host read of one
gives a drawn value, whatever the number of the draw. -/
def Obligations.ResetStateValues : Prop :=
  State.reset.wst = .seeking ∧ State.reset.cause = .clear
    ∧ State.reset.srcLen = 0 ∧ State.reset.start = 0 ∧ State.reset.ls = 0 ∧ State.reset.ll = 0
    ∧ State.reset.locOff = 0 ∧ State.reset.locVar.code = 0
    ∧ State.reset.curOff = 0 ∧ State.reset.curVar.code = 0 ∧ State.reset.expected = 0
    ∧ State.reset.drift = 0 ∧ State.reset.count = 0
    ∧ State.reset.frameLen = 0 ∧ State.reset.audioLen = 0
    ∧ State.reset.busy = false ∧ State.reset.locFound = false
    ∧ State.reset.seedNHit = false ∧ State.reset.seedSHit = false
    ∧ State.reset.emit = false ∧ State.reset.curValid = false
    ∧ State.reset.aligned = false ∧ State.reset.outValid = false
    ∧ (∀ i, Memory.read State.reset.frame i = none ∧ Memory.read State.reset.audio i = none
        ∧ Memory.read State.reset.pixel i = none)
    ∧ ∀ (k i : Nat) (sp : Space), sp ≠ .reg → i < sp.size →
        (hostRead { State.reset with draws := k } sp i).readData = (Config.freeByte k i).zeroExtend 32

/-- R270: the reset input, in any state. That what the host still has to do, what it last read and the counter of draws
stay is the model's choice (log entry 7). -/
def Obligations.ResetInputRestoresResetState : Prop :=
  ∀ (s : State) (rest : List PortEvent), s.port = .reset :: rest →
    step s = .next { State.reset with
      cfg := s.cfg, src := s.src, port := rest, readData := s.readData, draws := s.draws }

/-! ### The encoding -/

/-- R81: the command of each of the 19 legal bytes; every other byte, by its fields, is illegal. -/
def Obligations.CommandBytesDecode : Prop :=
  decode 0x00 = .ok .nop ∧ decode 0x10 = .ok .init ∧ decode 0x20 = .ok .probe
    ∧ decode 0x30 = .ok (.matchV .monoN) ∧ decode 0x31 = .ok (.matchV .monoS)
    ∧ decode 0x32 = .ok (.matchV .colorN) ∧ decode 0x33 = .ok (.matchV .colorS)
    ∧ decode 0x34 = .ok (.matchV .xpN) ∧ decode 0x35 = .ok (.matchV .xpS)
    ∧ decode 0x40 = .ok .locate ∧ decode 0x50 = .ok .fetch
    ∧ decode 0x60 = .ok (.decodeV .monoN) ∧ decode 0x61 = .ok (.decodeV .monoS)
    ∧ decode 0x62 = .ok (.decodeV .colorN) ∧ decode 0x63 = .ok (.decodeV .colorS)
    ∧ decode 0x64 = .ok (.decodeV .xpN) ∧ decode 0x65 = .ok (.decodeV .xpS)
    ∧ decode 0x70 = .ok .wstep ∧ decode 0x80 = .ok .next
    ∧ ∀ b : Byte,
        ((decode b).toOption = none ↔
          8 < b.toNat / 16 ∨ b.getLsbD 3 = true
            ∨ ((b.toNat / 16 = 3 ∨ b.toNat / 16 = 6) ∧ 5 < b.toNat % 8)
            ∨ (b.toNat / 16 ≠ 3 ∧ b.toNat / 16 ≠ 6 ∧ b.toNat % 8 ≠ 0))

/-- Decoding the byte of a command gives the command back, and each command has one byte. -/
def Obligations.DecodeEncodeAgree : Prop :=
  ∀ i : Instr, decode (encode i) = .ok i ∧ ∀ b : Byte, decode b = .ok i → b = encode i

/-! ### One step -/

/-- R24, R80: a write to `CMD` runs the command of the word's low byte; bits 31:8 do not matter. -/
def Obligations.StepRunsTheDecodedCommand : Prop :=
  ∀ (s : State) (rest : List PortEvent) (data : Word) (i : Instr),
    s.busy = false → s.port = .write .reg 0x00 data :: rest → decode (data.extractLsb' 0 8) = .ok i →
      step s = exec i { s with port := rest }

/-- R84: an illegal byte raises `IllegalCommand`, and is ignored in Failed. -/
def Obligations.IllegalByteRaises : Prop :=
  ∀ (s : State) (rest : List PortEvent) (data : Word),
    s.busy = false → s.port = .write .reg 0x00 data :: rest → (decode (data.extractLsb' 0 8)).toOption = none →
      (s.wst ≠ .failed → step s = .next { s with
        port := rest, cause := .illegalCommand, wst := .failed, emit := false, outValid := false })
      ∧ (s.wst = .failed → step s = .next { s with port := rest })

/-- R247 (1), R249: in Failed every byte but 0x00 and 0x10 is ignored. -/
def Obligations.FailedIgnoresAllButNopAndInit : Prop :=
  ∀ (s : State) (rest : List PortEvent) (data : Word),
    s.busy = false → s.wst = .failed → s.port = .write .reg 0x00 data :: rest →
      data.extractLsb' 0 8 ≠ 0x00 → data.extractLsb' 0 8 ≠ 0x10 → step s = .next { s with port := rest }

/-- The model's choice (log entries 2 and 3): with nothing at the port the block waits; with `BUSY` = 1 a host access
has no move (U5). -/
def Obligations.EmptyPortWaitsBusyPortIsStuck : Prop :=
  (∀ s : State, s.port = [] → step s = .next s)
    ∧ ∀ (s : State) (e : PortEvent) (rest : List PortEvent),
        s.port = e :: rest → s.busy = true → e ≠ .reset → step s = .fault .portAccessWhileBusy

/-- Every command, in every state, and every step of a block that is not busy, answers a next state. -/
def Obligations.NothingElseStopsTheBlock : Prop :=
  (∀ (i : Instr) (s : State), ∃ t, exec i s = .next t) ∧ ∀ s : State, s.busy = false → ∃ t, step s = .next t

/-! ### The host port -/

/-- R22: a write to a register of access RW replaces that register and nothing else. That a write to `SRC_LEN` is taken
in every state, also during a pass, is the model's choice (log entry 9: DESIGN CHOICE, unsafe; U11, R279). -/
def Obligations.ReadWriteRegistersTakeTheWord : Prop :=
  ∀ (s : State) (rest : List PortEvent) (data : Word), s.busy = false →
    (s.port = .write .reg 0x03 data :: rest → step s = .next { s with port := rest, srcLen := data })
    ∧ (s.port = .write .reg 0x04 data :: rest → step s = .next { s with port := rest, start := data })
    ∧ (s.port = .write .reg 0x05 data :: rest → step s = .next { s with port := rest, ls := data })
    ∧ (s.port = .write .reg 0x06 data :: rest → step s = .next { s with port := rest, ll := data })
    ∧ (s.port = .write .reg 0x0E data :: rest → step s = .next { s with port := rest, frameLen := data })

/-- R38: access to what is not there, or may not be written: writes ignored, reads 0, no cause. -/
def Obligations.AccessToNothingIsIgnored : Prop :=
  ∀ (s : State) (rest : List PortEvent) (index : BitVec 16) (data : Word), s.busy = false →
    (index ∉ [0x00, 0x03, 0x04, 0x05, 0x06, 0x0E] → s.port = .write .reg index data :: rest →
      step s = .next { s with port := rest })
    ∧ (19760 ≤ index.toNat → s.port = .write .frame index data :: rest → step s = .next { s with port := rest })
    ∧ (s.port = .write .audio index data :: rest ∨ s.port = .write .pixel index data :: rest →
      step s = .next { s with port := rest })
    ∧ ((index = 0x00 ∨ 0x0F < index.toNat) ∧ s.port = .read .reg index :: rest
        ∨ 19760 ≤ index.toNat ∧ s.port = .read .frame index :: rest
        ∨ 1976 ≤ index.toNat ∧ s.port = .read .audio index :: rest
        ∨ 34560 ≤ index.toNat ∧ s.port = .read .pixel index :: rest →
      ∃ t, step s = .next t ∧ t = { s with port := rest, readData := 0, draws := t.draws })

/-- R21, R22: what a host read of each register gives, narrow fields zero-extended. Nothing else changes but the
model's own counter of draws (log entry 5). -/
def Obligations.RegisterReads : Prop :=
  ∀ (s : State) (rest : List PortEvent) (index : BitVec 16),
    s.busy = false → s.port = .read .reg index :: rest →
      ∃ t, step s = .next t ∧ t = { s with
        port := rest, draws := t.draws
        readData := [0, statusWord s, s.cause.code.zeroExtend 32, s.srcLen, s.start, s.ls, s.ll, s.locOff,
          s.locVar.code.zeroExtend 32, s.curOff, s.curVar.code.zeroExtend 32, s.expected, s.drift, s.count,
          s.frameLen, s.audioLen].getD index.toNat 0 }

/-- R26, R28, R245: the bits of `STATUS`, and the codes of `WST` and `CAUSE`. -/
def Obligations.StatusWordBits : Prop :=
  (∀ s : State,
    (statusWord s).extractLsb' 0 3 = s.wst.code ∧ (statusWord s).getLsbD 3 = s.busy
      ∧ (statusWord s).getLsbD 4 = s.locFound ∧ (statusWord s).getLsbD 5 = s.seedNHit
      ∧ (statusWord s).getLsbD 6 = s.seedSHit ∧ (statusWord s).getLsbD 7 = s.emit
      ∧ (statusWord s).getLsbD 8 = s.curValid ∧ (statusWord s).getLsbD 9 = s.aligned
      ∧ (statusWord s).getLsbD 10 = s.outValid ∧ (statusWord s).extractLsb' 11 21 = 0)
    ∧ Wst.seeking.code = 0 ∧ Wst.locked.code = 1 ∧ Wst.resyncing.code = 2 ∧ Wst.exhausted.code = 3
    ∧ Wst.failed.code = 4
    ∧ Cause.clear.code = 0 ∧ Cause.notFound.code = 1 ∧ Cause.exhausted.code = 2
    ∧ Cause.lengthPrecondition.code = 3 ∧ Cause.illegalCommand.code = 4

/-- R73: a host write to a byte of FRAME replaces that byte and no other, and changes no register. -/
def Obligations.FrameWriteReplacesOneByte : Prop :=
  ∀ (s : State) (rest : List PortEvent) (index : BitVec 16) (data : Word),
    s.busy = false → index.toNat < 19760 → s.port = .write .frame index data :: rest →
      ∃ t, step s = .next t ∧ t = { s with port := rest, frame := t.frame }
        ∧ Memory.read t.frame index.toNat = some (data.extractLsb' 0 8)
        ∧ ∀ j, j ≠ index.toNat → Memory.read t.frame j = Memory.read s.frame j

/-- R88, U9, U10: a host read of a buffer byte gives the byte that stands there, zero-extended, and where none does a
drawn value: the opaque constant at the model's own counter of draws (log entry 5). -/
def Obligations.BufferReads : Prop :=
  ∀ (s : State) (rest : List PortEvent) (index : BitVec 16) (sp : Space),
    s.busy = false → sp ≠ .reg → index.toNat < sp.size → s.port = .read sp index :: rest →
      ∃ t, step s = .next t ∧ t = { s with port := rest, draws := t.draws, readData := t.readData }
        ∧ (∀ b, Memory.read (s.buffer sp) index.toNat = some b → t.readData = b.zeroExtend 32)
        ∧ (Memory.read (s.buffer sp) index.toNat = none →
          t.readData = (Config.freeByte s.draws index.toNat).zeroExtend 32)

/-! ### System commands, raise, accept -/

/-- R230 -/
def Obligations.NopChangesNothing : Prop := decode 0x00 = .ok .nop ∧ ∀ s : State, exec .nop s = .next s

/-- R231, in every walker state: what INIT writes, and that it leaves all else. -/
def Obligations.InitBeginsANewPass : Prop :=
  decode 0x10 = .ok .init ∧ Variant.code .monoN = 0
    ∧ ∀ s : State, exec .init s = .next { s with
        wst := .seeking, cause := .clear
        curOff := 0, curVar := .monoN, expected := 0, drift := 0, count := 0
        emit := false, curValid := false, aligned := false, outValid := false }

/-- R246: what a raise writes, and that it writes nothing else. -/
def Obligations.RaiseWritesOnlyItsFour : Prop :=
  ∀ (x : Cause) (s : State), x ≠ .clear →
    raise x s = { s with
      cause := x, wst := if x = .exhausted then .exhausted else .failed, emit := false, outValid := false }

/-- R192: the tuple and registers of a located frame, as numbers: nothing wraps when the frame lies in the source. -/
def Obligations.AcceptRecordsTheFrame : Prop :=
  ∀ (s : State) (p d : Nat) (v : Variant), p + v.stride ≤ s.srcLen.toNat → d ≤ p →
    (accept p v d s).curOff.toNat = p ∧ (accept p v d s).curVar = v
      ∧ (accept p v d s).expected.toNat = p + v.stride ∧ (accept p v d s).drift.toNat = d
      ∧ (accept p v d s).aligned = decide (p % 2352 = 0) ∧ (accept p v d s).count = s.count + 1
      ∧ (accept p v d s).curValid = true ∧ (accept p v d s).emit = true ∧ (accept p v d s).wst = .locked
      ∧ accept p v d s = { s with
          curOff := (accept p v d s).curOff, curVar := v, expected := (accept p v d s).expected
          drift := (accept p v d s).drift, aligned := (accept p v d s).aligned, count := s.count + 1
          curValid := true, emit := true, wst := .locked }

/-! ### The matcher -/

/-- R109 with R100: each seed flag says whether the 8 bytes at `LS` lie in the source and are that seed. -/
def Obligations.ProbeSetsTheSeedFlags : Prop :=
  decode 0x20 = .ok .probe ∧ ∀ s : State,
    (s.wst ≠ .failed → ∃ t, exec .probe s = .next t
      ∧ t = { s with seedNHit := t.seedNHit, seedSHit := t.seedSHit }
      ∧ (t.seedNHit = true ↔ s.ls.toNat + 8 ≤ s.srcLen.toNat
          ∧ ∀ i < 8, s.cfg.data.seedN[i]? = some (s.srcByte (s.ls.toNat + i)))
      ∧ (t.seedSHit = true ↔ s.ls.toNat + 8 ≤ s.srcLen.toNat
          ∧ ∀ i < 8, s.cfg.data.seedS[i]? = some (s.srcByte (s.ls.toNat + i))))
    ∧ (s.wst = .failed → exec .probe s = .next s)

/-- R102, R103, R104: which positions a variant's mask zeroes, and that it leaves the others and the length alone. -/
def Obligations.MaskZeroesItsPositions : Prop :=
  ∀ (c : CfgData) (v : Variant) (x : List Byte),
    (mask c v x).length = x.length
      ∧ ∀ i < x.length,
          (maskedSlot c v i → (mask c v x)[i]? = some 0) ∧ (¬ maskedSlot c v i → (mask c v x)[i]? = x[i]?)

/-- R105 -/
def Obligations.MaskIsIdempotent : Prop :=
  ∀ (c : CfgData) (v : Variant) (x : List Byte), mask c v (mask c v x) = mask c v x

/-- R106, R107, R108: a marker matches exactly when its window lies in the source and agrees with the marker off the
mask positions, whatever either side holds at them. -/
def Obligations.MatchComparesOffTheMask : Prop :=
  ∀ (s : State) (v : Variant) (p : Nat),
    matchesAt s v p = true ↔
      p + s.cfg.data.markerLen v ≤ s.srcLen.toNat
        ∧ ∀ i < s.cfg.data.markerLen v, maskPos s.cfg.data v (s.cfg.data.markerLen v) i = false →
            (s.cfg.data.marker.get v)[i]? = some (s.srcByte (p + i))

/-- R110: MATCH for every variant, and the bytes of its row that are illegal. -/
def Obligations.MatchCommand : Prop :=
  (∀ (s : State) (v : Variant),
    decode (commandByte 0x3 v.code) = .ok (.matchV v)
    ∧ (s.wst ≠ .failed → matchesAt s v s.ls.toNat = true →
      exec (.matchV v) s = .next { s with locFound := true, locOff := s.ls, locVar := v })
    ∧ (s.wst ≠ .failed → matchesAt s v s.ls.toNat = false →
      exec (.matchV v) s = .next { s with locFound := false })
    ∧ (s.wst = .failed → exec (.matchV v) s = .next s))
  ∧ ∀ b : Byte, 0x36 ≤ b.toNat → b.toNat ≤ 0x3F → (decode b).toOption = none

/-! ### The locator -/

/-- R120: the first variant of the priority list that matches. -/
def Obligations.ClassifyTakesTheFirstMatch : Prop :=
  ∀ (s : State) (p : Nat),
    (∀ v, classify s p = some v ↔
      ∃ before after, s.cfg.data.priority = before ++ v :: after ∧ matchesAt s v p = true
        ∧ ∀ u ∈ before, matchesAt s u p = false)
    ∧ (classify s p = none ↔ ∀ v ∈ s.cfg.data.priority, matchesAt s v p = false)

/-- R123, R124 (a): the least offset of the window that hits a seed and classifies, and its variant; NotFound when
there is none. -/
def Obligations.LocateFindsTheFirstMarker : Prop :=
  ∀ (s : State) (a l : Nat),
    (∀ p v, locate s a l = some (p, v) ↔
      a ≤ p ∧ p < l ∧ seedHit s p = true ∧ classify s p = some v
        ∧ ∀ q, a ≤ q → q < p → ¬ (seedHit s q = true ∧ (classify s q).isSome = true))
    ∧ (locate s a l = none ↔
      ∀ q, a ≤ q → q < l → ¬ (seedHit s q = true ∧ (classify s q).isSome = true))

/-- R124 (b), (c), (e): an empty window, a limit beyond the source, a short source, and a window split in two. -/
def Obligations.LocateWindowLaws : Prop :=
  ∀ (s : State) (a l : Nat),
    (l ≤ a → locate s a l = none)
    ∧ (8 ≤ s.srcLen.toNat → locate s a l = locate s a (min l (s.srcLen.toNat - 7)))
    ∧ (s.srcLen.toNat < 8 → locate s a l = none)
    ∧ ∀ m, a ≤ m → m ≤ l → locate s a l = (locate s a m).or (locate s m l)

/-- R124 (g): nothing is found in a source of zeros, for a configuration with P-NONZERO (R8). -/
def Obligations.ZeroSourceHasNoMarker : Prop :=
  ∀ (s : State) (a l : Nat), s.cfg.data.pNonzero → (∀ i < s.srcLen.toNat, s.srcByte i = 0) →
    locate s a l = none

/-- R122, R196: under P-PREFIX, and with no XP mask position in the seed's eight bytes, the seed filter turns no marker
away: the scan tests the full marker and mask at every offset. -/
def Obligations.SeedFilterTurnsNoMarkerAway : Prop :=
  ∀ (s : State) (p : Nat), s.cfg.data.pPrefix →
    (∀ i ∈ s.cfg.data.xpMaskN, 8 ≤ i) → (∀ i ∈ s.cfg.data.xpMaskS, 8 ≤ i) →
      ∀ v, classify s p = some v → seedHit s p = true

/-- R126: LOCATE writes the primitive's result and touches no register of the walker. -/
def Obligations.LocateCommand : Prop :=
  decode 0x40 = .ok .locate ∧ ∀ s : State,
    (∀ p v, s.wst ≠ .failed → locate s s.ls.toNat s.ll.toNat = some (p, v) →
      exec .locate s = .next { s with locFound := true, locOff := BitVec.ofNat 32 p, locVar := v } ∧ p < 2 ^ 32)
    ∧ (s.wst ≠ .failed → locate s s.ls.toNat s.ll.toNat = none →
      exec .locate s = .next { s with locFound := false })
    ∧ (s.wst = .failed → exec .locate s = .next s)

/-! ### The decoder -/

/-- R141: the pair swap byte by byte, and its laws. -/
def Obligations.PairSwapExchangesNeighbours : Prop :=
  ∀ x : List Byte, x.length % 2 = 0 →
    (∀ k < x.length / 2, (pairSwap x)[2 * k]? = x[2 * k + 1]? ∧ (pairSwap x)[2 * k + 1]? = x[2 * k]?)
    ∧ pairSwap (pairSwap x) = x ∧ (pairSwap x).length = x.length
    ∧ (pairSwap x).reverse = pairSwap x.reverse

/-- R144, R145, R146, R164: the audio sequence, its bytes in the canonical frame, in the raw frame, and in the reversed
buffer. -/
def Obligations.AudioIsEveryTenthByte : Prop :=
  ∀ (v : Variant) (f : List Byte), f.length = v.stride →
    (audioOf (canon v f)).length = v.stride / 10
      ∧ ∀ j < v.stride / 10,
          (audioOf (canon v f))[j]? = (canon v f)[9 + 10 * j]?
            ∧ (audioOf (canon v f))[j]? = f[v.orient.audStart + 10 * j]?
            ∧ (canon v f).reverse[10 * j]? = (audioOf (canon v f))[v.stride / 10 - 1 - j]?

/-- R161, R162, R163: each nibble fills the byte, and is recovered from either half of it. -/
def Obligations.ExpansionReplicatesTheNibble : Prop :=
  ∀ b : Byte,
    expandHi b = (b &&& 0xF0) ||| (b >>> 4) ∧ expandLo b = (b &&& 0x0F) ||| ((b <<< 4) &&& 0xF0)
      ∧ (expandHi b).extractLsb' 4 4 = b.extractLsb' 4 4 ∧ (expandHi b).extractLsb' 0 4 = b.extractLsb' 4 4
      ∧ (expandLo b).extractLsb' 4 4 = b.extractLsb' 0 4 ∧ (expandLo b).extractLsb' 0 4 = b.extractLsb' 0 4

/-- R160, R167, R168, V-S1: the byte at column byte `431 - c` of row `r` is the expanded nibble that the mode's map
names for output index `432 r + c`, taken from the canonical frame read from its end. -/
def Obligations.PixelByteComesFromItsMapEntry : Prop :=
  ∀ (c : Cfg) (v : Variant) (f : List Byte) (r x : Nat), f.length = v.stride → r < 80 → x < 432 →
    ∃ e b, (c.data.pixmap.get v.mode)[432 * r + x]? = some e ∧ e.src < v.stride
      ∧ (canon v f)[v.stride - 1 - e.src]? = some b
      ∧ (pixelsOf c.data v f)[432 * r + (431 - x)]? =
          some (match e.sel with | .hi => expandHi b | .lo => expandLo b)

/-- R168, with its laws, and R169: each 432-byte row reversed; the full reversal, which the block does not do, is this
mirror with the 80 rows upside down. -/
def Obligations.RowMirrorReversesEachRow : Prop :=
  ∀ p : List Byte, p.length = 34560 →
    (∀ r < 80, ∀ c < 432, (rowMirror p)[432 * r + c]? = p[432 * r + (431 - c)]?)
      ∧ rowMirror (rowMirror p) = p
      ∧ ∀ r < 80, ∀ c < 432, p.reverse[432 * r + c]? = (rowMirror p)[432 * (79 - r) + c]?

/-- R171 (a), (b), (c), (d), for every map: what a frame of one byte throughout decodes to (0xFF gives 0xFF, 0x00 gives
0x00), and that every pixel byte has equal nibbles. -/
def Obligations.PixelsWhateverTheMap : Prop :=
  ∀ (c : Cfg) (v : Variant),
    pixelsOf c.data v (List.replicate v.stride 0xFF) = List.replicate 34560 0xFF
      ∧ pixelsOf c.data v (List.replicate v.stride 0x00) = List.replicate 34560 0x00
      ∧ (∀ x : Byte,
          audioOf (canon v (List.replicate v.stride x)) = List.replicate (v.stride / 10) x
            ∧ ∀ b ∈ pixelsOf c.data v (List.replicate v.stride x), b = expandHi x ∨ b = expandLo x)
      ∧ ∀ f : List Byte, f.length = v.stride →
          ∀ b ∈ pixelsOf c.data v f, b.extractLsb' 4 4 = b.extractLsb' 0 4

/-- R171 (f): a Normal frame and its pair-swapped Swapped frame decode to the same audio and pixels, in each mode. -/
def Obligations.OrientationIsUndoneFirst : Prop :=
  ∀ (c : CfgData) (f : List Byte),
    decodeFrame c .monoN f = decodeFrame c .monoS (pairSwap f)
      ∧ decodeFrame c .colorN f = decodeFrame c .colorS (pairSwap f)
      ∧ decodeFrame c .xpN f = decodeFrame c .xpS (pairSwap f)

/-- R171 (e): the pixels do not depend on the audio bytes of the frame, nor the audio on the others. -/
def Obligations.AudioAndPixelsAreIndependent : Prop :=
  ∀ (c : Cfg) (v : Variant) (f g : List Byte), f.length = v.stride → g.length = v.stride →
    ((∀ i < v.stride, i % 10 ≠ v.orient.audStart → f[i]? = g[i]?) →
      pixelsOf c.data v f = pixelsOf c.data v g)
    ∧ ((∀ i < v.stride, i % 10 = v.orient.audStart → f[i]? = g[i]?) →
      audioOf (canon v f) = audioOf (canon v g))

/-- R147: FETCH where the frame lies in the source (the frame's bytes, their number, and every other byte and register
as before), where it raises, and where it is ignored. -/
def Obligations.FetchCommand : Prop :=
  decode 0x50 = .ok .fetch ∧ ∀ s : State,
    (s.wst ≠ .failed → s.curValid = true → s.curOff.toNat + s.curVar.stride ≤ s.srcLen.toNat →
      ∃ t, exec .fetch s = .next t ∧ t = { s with frame := t.frame, frameLen := t.frameLen }
        ∧ t.frameLen.toNat = s.curVar.stride
        ∧ (∀ i < s.curVar.stride, Memory.read t.frame i = some (s.srcByte (s.curOff.toNat + i)))
        ∧ ∀ i, s.curVar.stride ≤ i → Memory.read t.frame i = Memory.read s.frame i)
    ∧ (s.wst ≠ .failed → s.curValid = false → exec .fetch s = .next { s with
        cause := .illegalCommand, wst := .failed, emit := false, outValid := false })
    ∧ (s.wst ≠ .failed → s.curValid = true → s.srcLen.toNat < s.curOff.toNat + s.curVar.stride →
      exec .fetch s = .next { s with
        cause := .lengthPrecondition, wst := .failed, emit := false, outValid := false })
    ∧ (s.wst = .failed → exec .fetch s = .next s)

/-- R148, U4: DECODE of a frame of the right length delivers the decoding of FRAME's bytes, where a byte that holds no
value may be any; the rest of AUDIO, and every other register and buffer, stays. On the wrong length it raises, and in
Failed it is ignored. The counter of draws is the model's own (log entry 5). -/
def Obligations.DecodeCommand : Prop :=
  (∀ (s : State) (v : Variant),
    decode (commandByte 0x6 v.code) = .ok (.decodeV v)
    ∧ (s.wst ≠ .failed → s.frameLen.toNat = v.stride →
      ∃ f t, f.length = v.stride
        ∧ (∀ i < v.stride, ∀ b, Memory.read s.frame i = some b → f[i]? = some b)
        ∧ exec (.decodeV v) s = .next t
        ∧ t = { s with
            audio := t.audio, audioLen := t.audioLen, pixel := t.pixel, outValid := true, draws := t.draws }
        ∧ t.audioLen.toNat = v.stride / 10
        ∧ (∀ j < v.stride / 10, Memory.read t.audio j = (audioOf (canon v f))[j]?)
        ∧ (∀ j, v.stride / 10 ≤ j → Memory.read t.audio j = Memory.read s.audio j)
        ∧ (∀ o < 34560, Memory.read t.pixel o = (pixelsOf s.cfg.data v f)[o]?)
        ∧ ∀ o, 34560 ≤ o → Memory.read t.pixel o = Memory.read s.pixel o)
    ∧ (s.wst ≠ .failed → s.frameLen.toNat ≠ v.stride → exec (.decodeV v) s = .next { s with
        cause := .lengthPrecondition, wst := .failed, emit := false, outValid := false })
    ∧ (s.wst = .failed → exec (.decodeV v) s = .next s))
  ∧ ∀ b : Byte, 0x66 ≤ b.toNat → b.toNat ≤ 0x6F → (decode b).toOption = none

/-! ### The walker -/

/-- R194, with `SEEK_WINDOW` as R6 defines it. -/
def Obligations.WstepSeeking : Prop :=
  decode 0x70 = .ok .wstep ∧ ∀ (s : State) (window : Nat), s.wst = .seeking →
    (∀ v ∈ s.cfg.data.priority, v.stride ≤ window) → (∃ v ∈ s.cfg.data.priority, v.stride = window) →
      (∀ p v, locate s s.start.toNat (s.start.toNat + window) = some (p, v) → p + v.stride ≤ s.srcLen.toNat →
        exec .wstep s = .next (accept p v 0 s))
      ∧ (∀ p v, locate s s.start.toNat (s.start.toNat + window) = some (p, v) → s.srcLen.toNat < p + v.stride →
        exec .wstep s = .next (raise .notFound s))
      ∧ (locate s s.start.toNat (s.start.toNat + window) = none →
        exec .wstep s = .next (raise .notFound s))

/-- R195: the hop tests the one offset `EXPECTED`. -/
def Obligations.WstepLocked : Prop :=
  ∀ s : State, s.wst = .locked →
    (∀ v, seedHit s s.expected.toNat = true → classify s s.expected.toNat = some v →
      s.expected.toNat + v.stride ≤ s.srcLen.toNat → exec .wstep s = .next (accept s.expected.toNat v 0 s))
    ∧ (∀ v, seedHit s s.expected.toNat = true → classify s s.expected.toNat = some v →
      s.srcLen.toNat < s.expected.toNat + v.stride → exec .wstep s = .next (raise .exhausted s))
    ∧ ((seedHit s s.expected.toNat = false ∨ classify s s.expected.toNat = none) →
      exec .wstep s = .next { s with emit := false, wst := .resyncing })

/-- R196: the forward scan from `EXPECTED` to the end of the source. -/
def Obligations.WstepResyncing : Prop :=
  ∀ s : State, s.wst = .resyncing →
    (∀ q v, locate s s.expected.toNat s.srcLen.toNat = some (q, v) → q + v.stride ≤ s.srcLen.toNat →
      exec .wstep s = .next (accept q v (q - s.expected.toNat) s) ∧ s.expected.toNat ≤ q)
    ∧ (∀ q v, locate s s.expected.toNat s.srcLen.toNat = some (q, v) → s.srcLen.toNat < q + v.stride →
      exec .wstep s = .next (raise .exhausted s))
    ∧ (locate s s.expected.toNat s.srcLen.toNat = none → exec .wstep s = .next (raise .exhausted s))

/-- R197 -/
def Obligations.WstepTerminal : Prop :=
  ∀ s : State,
    (s.wst = .exhausted → exec .wstep s = .next { s with emit := false })
    ∧ (s.wst = .failed → exec .wstep s = .next s)

/-- R199: from a state that keeps the invariants, WSTEP takes one of the table's rows and no other transition. -/
def Obligations.WstepTakesATableRow : Prop :=
  ∀ s t : State, s.Inv → exec .wstep s = .next t →
    (s.wst, t.wst, t.emit, t.cause) ∈
      [(.seeking, .locked, true, .clear), (.seeking, .failed, false, .notFound),
        (.locked, .locked, true, .clear), (.locked, .resyncing, false, .clear),
        (.locked, .exhausted, false, .exhausted),
        (.resyncing, .locked, true, .clear), (.resyncing, .exhausted, false, .exhausted),
        (.exhausted, .exhausted, false, .exhausted), (.failed, .failed, false, s.cause)]

/-- R191, and WSTEP's frame: it touches no operand or result of the primitives and no buffer. -/
def Obligations.WstepLeavesThePrimitivesAlone : Prop :=
  ∀ s t : State, exec .wstep s = .next t →
    t = { s with
      curOff := t.curOff, curVar := t.curVar, expected := t.expected, drift := t.drift, count := t.count
      wst := t.wst, cause := t.cause, emit := t.emit, curValid := t.curValid, aligned := t.aligned
      outValid := t.outValid }

/-- R200: NEXT is one WSTEP, or two where the first is a failed hop, until a frame is emitted or the walk has ended;
then FETCH and DECODE of the frame's variant, or `OUT_VALID` cleared. -/
def Obligations.NextIsItsScript : Prop :=
  decode 0x80 = .ok .next ∧ ∀ s : State,
    (s.wst = .failed → exec .next s = .next s)
    ∧ (s.wst = .exhausted → exec .next s = .next { s with emit := false, outValid := false })
    ∧ (s.wst.terminal = false → ∃ t,
        (execAll [.wstep] s = .next t
          ∨ (s.wst = .locked ∧ exec .wstep s = .next { s with emit := false, wst := .resyncing }
              ∧ execAll [.wstep, .wstep] s = .next t))
        ∧ (t.emit = true ∨ t.wst = .exhausted ∨ t.wst = .failed)
        ∧ (t.emit = true → exec .next s = execAll [.fetch, .decodeV t.curVar] t)
        ∧ (t.emit = false → exec .next s = .next { t with outValid := false }))

/-- R200, from a state that keeps the invariants: NEXT emits exactly where the scan of its walker state (after a missed
hop, the forward scan) finds a marker whose whole frame lies in the source, and it delivers the decoding of that frame;
where it does not emit, the walk has ended, no output is valid, and no buffer has changed. -/
def Obligations.NextDeliversTheLocatedFrame : Prop :=
  ∀ s : State, s.Inv → ∃ t, exec .next s = .next t
    ∧ (∀ p v, (t.emit = true ∧ t.curOff.toNat = p ∧ t.curVar = v) ↔
        p + v.stride ≤ s.srcLen.toNat
          ∧ ((s.wst = .seeking
                ∧ locate s s.start.toNat (s.start.toNat + s.cfg.data.seekWindow) = some (p, v))
            ∨ (s.wst = .locked ∧ locate s s.expected.toNat (s.expected.toNat + 1) = some (p, v))
            ∨ (s.wst = .locked ∧ locate s s.expected.toNat (s.expected.toNat + 1) = none
                ∧ locate s s.expected.toNat s.srcLen.toNat = some (p, v))
            ∨ (s.wst = .resyncing ∧ locate s s.expected.toNat s.srcLen.toNat = some (p, v))))
    ∧ (t.emit = true →
      t.outValid = true ∧ t.wst = .locked
        ∧ t.frameLen.toNat = t.curVar.stride ∧ t.audioLen.toNat = t.curVar.stride / 10
        ∧ ∃ f : List Byte, f.length = t.curVar.stride
            ∧ (∀ i < t.curVar.stride,
                f[i]? = some (s.srcByte (t.curOff.toNat + i)) ∧ Memory.read t.frame i = f[i]?)
            ∧ (∀ j < t.curVar.stride / 10, Memory.read t.audio j = (audioOf (canon t.curVar f))[j]?)
            ∧ ∀ o < 34560, Memory.read t.pixel o = (pixelsOf s.cfg.data t.curVar f)[o]?)
    ∧ (t.emit = false →
      t.outValid = false ∧ (t.wst = .exhausted ∨ t.wst = .failed)
        ∧ t.frame = s.frame ∧ t.audio = s.audio ∧ t.pixel = s.pixel
        ∧ t.frameLen = s.frameLen ∧ t.audioLen = s.audioLen)

/-- NEXT's frame, in every state: the primitives' registers stay, and so does every byte of FRAME and AUDIO behind the
bytes delivered. -/
def Obligations.NextLeavesTheRestAlone : Prop :=
  ∀ s t : State, exec .next s = .next t →
    t = { s with
      curOff := t.curOff, curVar := t.curVar, expected := t.expected, drift := t.drift, count := t.count
      wst := t.wst, cause := t.cause, emit := t.emit, curValid := t.curValid, aligned := t.aligned
      outValid := t.outValid, frame := t.frame, frameLen := t.frameLen, audio := t.audio
      audioLen := t.audioLen, pixel := t.pixel, draws := t.draws }
    ∧ (∀ i, t.frameLen.toNat ≤ i → Memory.read t.frame i = Memory.read s.frame i)
    ∧ (∀ i, t.audioLen.toNat ≤ i → Memory.read t.audio i = Memory.read s.audio i)
    ∧ ∀ i, 34560 ≤ i → Memory.read t.pixel i = Memory.read s.pixel i

/-! ### The whole machine -/

/-- R37: the reset state has the invariants that a state alone can show (I8 in full is NoFramesAtReset's and
LocatedFramesFitTheSource's). -/
def Obligations.ResetKeepsTheInvariants : Prop := State.reset.Inv

/-- R37: every step, from any state that keeps the invariants, keeps them, if the host does its duty of R279, for the
span that log entry 19 chooses. -/
def Obligations.EveryStepKeepsTheInvariants : Prop :=
  ∀ s t : State, s.Inv → s.HostKeepsSource → step s = .next t → t.Inv

/-- R20, R60, R71: no step writes the source or the configuration. -/
def Obligations.SourceAndConfigurationNeverChange : Prop :=
  ∀ s t : State, step s = .next t → t.cfg = s.cfg ∧ t.src = s.src

/-- R32, R33: AUDIO and PIXEL are written by DECODE and NEXT only, and lose their contents by reset only. -/
def Obligations.OutputsWrittenByDecodeAndNextOnly : Prop :=
  ∀ s t : State, step s = .next t → t.audio ≠ s.audio ∨ t.pixel ≠ s.pixel ∨ t.audioLen ≠ s.audioLen →
    ∃ rest, s.port = .reset :: rest
      ∨ ∃ data, s.port = .write .reg 0x00 data :: rest
          ∧ (decode (data.extractLsb' 0 8) = .ok .next ∨ ∃ v, decode (data.extractLsb' 0 8) = .ok (.decodeV v))

/-- R30, R190: a cause, and with it the end of the pass, goes away by INIT or reset only; a raise may replace cause 2
by a fatal one. -/
def Obligations.CauseIsSticky : Prop :=
  ∀ s t : State, s.Inv → step s = .next t → s.cause ≠ .clear →
    (t.cause = s.cause ∧ t.wst = s.wst)
    ∨ (s.cause = .exhausted ∧ t.wst = .failed ∧ t.cause ≠ .clear ∧ t.cause ≠ .exhausted)
    ∨ ∃ rest, s.port = .reset :: rest
        ∨ ∃ data, s.port = .write .reg 0x00 data :: rest ∧ decode (data.extractLsb' 0 8) = .ok .init

/-- R202, R198: offsets grow by at least the previous frame's stride, and the drift is the distance from `EXPECTED`. -/
def Obligations.LocatedOffsetsIncrease : Prop :=
  ∀ s t : State, s.Inv → s.curValid = true → exec .wstep s = .next t ∨ exec .next s = .next t →
    t.emit = true →
      s.curOff.toNat + s.curVar.stride ≤ t.curOff.toNat
        ∧ t.curOff.toNat = s.expected.toNat + t.drift.toNat
        ∧ t.curOff.toNat + t.curVar.stride ≤ s.srcLen.toNat ∧ t.count.toNat = s.count.toNat + 1

/-- R202, D00's resync property: no marker from `EXPECTED` on, but one `d > 0` bytes later with its whole frame: the
walker goes Locked, Resyncing, Locked and reports drift `d`. -/
def Obligations.ResyncReportsTheDrift : Prop :=
  ∀ (s : State) (d : Nat) (v : Variant), s.wst = .locked → 0 < d →
    (∀ q, s.expected.toNat ≤ q → q < s.expected.toNat + d → seedHit s q = false ∨ classify s q = none) →
    seedHit s (s.expected.toNat + d) = true → classify s (s.expected.toNat + d) = some v →
    s.expected.toNat + d + v.stride ≤ s.srcLen.toNat →
      ∃ t u, exec .wstep s = .next t ∧ t.wst = .resyncing ∧ t.emit = false
        ∧ exec .wstep t = .next u ∧ u.wst = .locked ∧ u.emit = true
        ∧ u.drift.toNat = d ∧ u.curOff.toNat = s.expected.toNat + d ∧ u.curVar = v

/-- R203: from Seeking the walk ends within `2 * (SRC_LEN / 19600) + 2` WSTEPs. -/
def Obligations.WalkEndsWithinTheBound : Prop :=
  ∀ s : State, s.Inv → s.wst = .seeking →
    ∃ n t, n ≤ 2 * (s.srcLen.toNat / 19600) + 2 ∧ execAll (List.replicate n .wstep) s = .next t
      ∧ t.wst.terminal = true

/-- R201: after INIT, what NEXTs deliver depends on the source, its length, `START` and the configuration alone: the
same tuples and the same DecodedFrames. -/
def Obligations.WalkRestartsByRecomputation : Prop :=
  ∀ (s s' t t' : State) (n : Nat),
    s.cfg = s'.cfg → s.src = s'.src → s.srcLen = s'.srcLen → s.start = s'.start →
    execAll (.init :: List.replicate n .next) s = .next t →
    execAll (.init :: List.replicate n .next) s' = .next t' →
      t.curOff = t'.curOff ∧ t.curVar = t'.curVar ∧ t.aligned = t'.aligned ∧ t.drift = t'.drift
        ∧ t.expected = t'.expected ∧ t.count = t'.count ∧ t.wst = t'.wst ∧ t.cause = t'.cause
        ∧ t.emit = t'.emit ∧ t.curValid = t'.curValid ∧ t.outValid = t'.outValid
        ∧ (t.outValid = true → t.audioLen = t'.audioLen
            ∧ (∀ j < t.audioLen.toNat, Memory.read t.audio j = Memory.read t'.audio j)
            ∧ ∀ o < 34560, Memory.read t.pixel o = Memory.read t'.pixel o)

/-- R37, I8: the reset state, where no frame has been located. -/
def Obligations.NoFramesAtReset : Prop := Walk.Fits ⟨0, []⟩ State.reset

/-- R37, I8: along every step the located frames of the pass do not overlap and lie inside the source, and the sum of
their strides is at most `SRC_LEN` less the `START` that Seeking read; where `START` stands as it was read, that is
`SRC_LEN - START` of the registers. The host does its duty of R279, for the span that log entry 19 chooses. -/
def Obligations.LocatedFramesFitTheSource : Prop :=
  ∀ (s t : State) (w : Walk), s.Inv → w.Fits s → s.HostKeepsSource → step s = .next t →
    (w.after s t).Fits t
      ∧ (w.start = s.start.toNat → t.start = s.start →
        strideSum (w.after s t).frames ≤ t.srcLen.toNat - t.start.toNat)
end

