-- ==== Sys2Proof/Laws/Memory.lean ====
section
/-! SUPPORT. The laws of the byte spaces: a read after a write, reads through the walk of `block` and `skip`, the
prefix write, and that every operation keeps the canonical form. -/

namespace Sys2Proof.Machine

namespace Memory

@[simp] theorem read_nil (a : Nat) : read [] a = none := rfl

@[simp] theorem skip_nil (a : Nat) : skip [] a = [] := rfl

theorem read_cons (c : Host.Cell) (t : Memory) (a : Nat) :
    read (c :: t) a = if c.1 < a then read t a else if c.1 = a then some c.2 else none := rfl

theorem skip_cons (c : Host.Cell) (t : Memory) (a : Nat) :
    skip (c :: t) a = if c.1 < a then skip t a else c :: t := rfl

/-- Leaving out lower cells changes no read at or beyond them. -/
theorem read_skip (m : Memory) {a b : Nat} (h : a ≤ b) : read (skip m a) b = read m b := by
  induction m with
  | nil => rfl
  | cons c t ih =>
    rw [skip_cons]
    split
    · rw [ih, read_cons, if_pos (by omega)]
    · rfl

theorem skip_skip (m : Memory) {a b : Nat} (h : a ≤ b) : skip (skip m a) b = skip m b := by
  induction m with
  | nil => rfl
  | cons c t ih =>
    simp only [skip_cons]
    split
    · rw [ih, if_pos (by omega)]
    · rfl

@[simp] theorem skip_zero (m : Memory) : skip m 0 = m := by
  cases m <;> simp [skip_cons]

/-- The walk reads the bytes one by one. -/
theorem block_eq (fill : Nat → Byte) (m : Memory) (a n : Nat) :
    block fill m a n = (List.range n).map fun i => (read m (a + i)).getD (fill (a + i)) := by
  induction n generalizing m a with
  | zero => rfl
  | succ n ih =>
    simp only [block, ih, List.range_succ_eq_map, List.map_cons, List.map_map, Nat.add_zero,
      read_skip m (Nat.le_refl a)]
    congr 1
    refine List.map_congr_left fun i _ => ?_
    simp only [Function.comp_apply, Nat.succ_eq_add_one, read_skip m (by omega : a ≤ a + 1 + i)]
    rw [show a + 1 + i = a + (i + 1) by omega]

@[simp] theorem length_block (fill : Nat → Byte) (m : Memory) (a n : Nat) : (block fill m a n).length = n := by
  simp [block_eq]

theorem getElem?_block (fill : Nat → Byte) (m : Memory) {a n i : Nat} (h : i < n) :
    (block fill m a n)[i]? = some ((read m (a + i)).getD (fill (a + i))) := by
  simp [block_eq, h]

theorem block_skip (fill : Nat → Byte) (m : Memory) {a b : Nat} (n : Nat) (h : a ≤ b) :
    block fill (skip m a) b n = block fill m b n := by
  rw [block_eq, block_eq]
  exact List.map_congr_left fun i _ => by rw [read_skip m (by omega)]

/-- A read after a write to the same place gives the byte written. -/
@[simp] theorem read_write_same (m : Memory) (a : Nat) (b : Byte) : read (write m a b) a = some b := by
  induction m with
  | nil => simp [write, read_cons]
  | cons c t ih =>
    simp only [write]
    split
    · rw [read_cons, if_pos ‹_›, ih]
    · split <;> simp [read_cons]

/-- A write leaves every other place alone. -/
theorem read_write_other (m : Memory) {a a' : Nat} (b : Byte) (h : a' ≠ a) :
    read (write m a b) a' = read m a' := by
  induction m with
  | nil => simp [write, read_cons, h.symm]
  | cons c t ih =>
    simp only [write]
    split
    · simp only [read_cons, ih]
    · split
      · subst a; simp only [read_cons, if_neg h.symm]
      · simp only [read_cons, if_neg h.symm]
        by_cases h₁ : a < a'
        · rw [if_pos h₁]
        · rw [if_neg h₁, if_neg (by omega), if_neg (by omega)]

theorem read_cellsFrom (bs : List Byte) (m : Memory) (a i : Nat) :
    read (cellsFrom a bs ++ m) i =
      if i < a then (if bs = [] then read m i else none)
      else if i < a + bs.length then bs[i - a]? else read m i := by
  induction bs generalizing a with
  | nil =>
    simp only [cellsFrom, List.nil_append, if_true, List.length_nil, Nat.add_zero]
    split <;> rfl
  | cons b bs ih =>
    simp only [cellsFrom, List.cons_append, read_cons, ih, List.length_cons, reduceCtorEq, if_false]
    rcases Nat.lt_trichotomy i a with h | h | h
    · rw [if_neg (by omega), if_neg (by omega), if_pos h]
    · subst h
      simp
    · rw [if_pos h, if_neg (by omega : ¬ i < a)]
      by_cases h' : i < a + (bs.length + 1)
      · rw [if_neg (by omega), if_pos (by omega), if_pos h', show i - a = (i - (a + 1)) + 1 by omega,
          List.getElem?_cons_succ]
      · rw [if_neg (by omega), if_neg (by omega), if_neg h']

/-- A prefix write puts its bytes at the indices below its length and leaves the others alone. -/
theorem read_writePrefix (m : Memory) (bs : List Byte) (i : Nat) :
    read (writePrefix m bs) i = if i < bs.length then bs[i]? else read m i := by
  rw [writePrefix, read_cellsFrom]
  simp only [Nat.not_lt_zero, if_false, Nat.zero_add, Nat.sub_zero]
  split
  · rfl
  · exact read_skip m (by omega)

/-! ### The canonical form -/

theorem mem_skip {m : Memory} {a : Nat} {c : Host.Cell} (h : c ∈ skip m a) : c ∈ m := by
  induction m with
  | nil => exact h
  | cons d t ih =>
    rw [skip_cons] at h
    split at h
    · exact List.mem_cons_of_mem _ (ih h)
    · exact h

theorem skip_le {m : Memory} (h : m.wf) {a : Nat} {c : Host.Cell} (hc : c ∈ skip m a) : a ≤ c.1 := by
  induction m with
  | nil => cases hc
  | cons d t ih =>
    rw [skip_cons] at hc
    rw [Memory.wf, List.pairwise_cons] at h
    split at hc
    · exact ih h.2 hc
    · rcases List.mem_cons.1 hc with rfl | hc
      · omega
      · have := h.1 _ hc; omega

theorem skip_wf {m : Memory} (h : m.wf) (a : Nat) : (skip m a).wf := by
  induction m with
  | nil => exact h
  | cons c t ih =>
    rw [skip_cons]
    split
    · exact ih (List.pairwise_cons.1 h).2
    · exact h

theorem mem_write {m : Memory} {a : Nat} {b : Byte} {c : Host.Cell} (h : c ∈ write m a b) :
    c = (a, b) ∨ c ∈ m := by
  induction m with
  | nil => simpa [write] using h
  | cons d t ih =>
    simp only [write] at h
    split at h
    · rcases List.mem_cons.1 h with rfl | h
      · exact .inr (List.mem_cons_self ..)
      · exact (ih h).imp_right (List.mem_cons_of_mem _)
    · split at h
      · exact (List.mem_cons.1 h).imp_right (List.mem_cons_of_mem _)
      · exact List.mem_cons.1 h

theorem write_wf {m : Memory} (h : m.wf) (a : Nat) (b : Byte) : (write m a b).wf := by
  induction m with
  | nil => exact List.pairwise_singleton ..
  | cons c t ih =>
    obtain ⟨hc, ht⟩ := List.pairwise_cons.1 h
    simp only [write]
    split
    · refine List.pairwise_cons.2 ⟨fun d hd => ?_, ih ht⟩
      rcases mem_write hd with rfl | hd
      · assumption
      · exact hc d hd
    · split
      · exact List.pairwise_cons.2 ⟨fun d hd => by have := hc d hd; simp only; omega, ht⟩
      · refine List.pairwise_cons.2 ⟨fun d hd => ?_, h⟩
        rcases List.mem_cons.1 hd with rfl | hd
        · simp only; omega
        · have := hc d hd; simp only; omega

theorem write_within {m : Memory} {n : Nat} (h : m.within n) {a : Nat} (ha : a < n) (b : Byte) :
    (write m a b).within n := by
  intro c hc
  rcases mem_write hc with rfl | hc
  · exact ha
  · exact h c hc

theorem mem_cellsFrom {bs : List Byte} {a : Nat} {c : Host.Cell} (h : c ∈ cellsFrom a bs) :
    a ≤ c.1 ∧ c.1 < a + bs.length := by
  induction bs generalizing a with
  | nil => cases h
  | cons b bs ih =>
    rcases List.mem_cons.1 h with rfl | h
    · simp
    · have := ih h
      simp only [List.length_cons]
      omega

theorem cellsFrom_wf (bs : List Byte) (a : Nat) : (cellsFrom a bs).wf := by
  induction bs generalizing a with
  | nil => exact List.Pairwise.nil
  | cons b bs ih =>
    refine List.pairwise_cons.2 ⟨fun c hc => ?_, ih _⟩
    have := mem_cellsFrom hc
    simp only
    omega

theorem writePrefix_wf {m : Memory} (h : m.wf) (bs : List Byte) : (writePrefix m bs).wf := by
  refine List.pairwise_append.2 ⟨cellsFrom_wf _ _, skip_wf h _, fun c hc d hd => ?_⟩
  have := mem_cellsFrom hc
  have := skip_le h hd
  omega

theorem writePrefix_within {m : Memory} {n : Nat} (h : m.within n) {bs : List Byte} (hn : bs.length ≤ n) :
    (writePrefix m bs).within n := by
  intro c hc
  rcases List.mem_append.1 hc with hc | hc
  · have := mem_cellsFrom hc
    omega
  · exact h c (mem_skip hc)

end Memory

/-- The four byte spaces of the reset state have the canonical form. -/
theorem reset_wf :
    State.reset.src.wf ∧ State.reset.frame.wf ∧ State.reset.audio.wf ∧ State.reset.pixel.wf :=
  ⟨.nil, .nil, .nil, .nil⟩

end Sys2Proof.Machine
end

