-- ==== Sys2Proof/Laws/Operands.lean ====
section
/-! SUPPORT. The source window and the frame operand, read byte by byte. -/

namespace Sys2Proof.Machine

theorem block_src (s : State) (a n : Nat) :
    Memory.block Config.sourceByte s.src a n = (List.range n).map fun i => s.srcByte (a + i) :=
  Memory.block_eq ..

/-- `MemRead` gives the whole window or nothing. -/
theorem memRead_eq (s : State) (a n : Nat) :
    memRead s a n =
      if a + n ≤ s.srcLen.toNat then some ((List.range n).map fun i => s.srcByte (a + i)) else none := by
  rw [memRead, block_src]

theorem memRead_eq_some {s : State} {a n : Nat} {w : List Byte} :
    memRead s a n = some w ↔
      a + n ≤ s.srcLen.toNat ∧ w = (List.range n).map fun i => s.srcByte (a + i) := by
  rw [memRead_eq]
  split <;> simp_all [eq_comm]

theorem memRead_eq_none {s : State} {a n : Nat} : memRead s a n = none ↔ s.srcLen.toNat < a + n := by
  rw [memRead_eq]
  split <;> simp_all

theorem length_of_memRead {s : State} {a n : Nat} {w : List Byte} (h : memRead s a n = some w) :
    w.length = n := by
  rw [(memRead_eq_some.1 h).2]
  simp

@[simp] theorem length_frameOperand (s : State) : (frameOperand s).length = s.frameLen.toNat := by
  simp [frameOperand]

/-- Byte `i` of DECODE's operand: the byte FRAME holds, or a drawn one. -/
theorem getElem?_frameOperand (s : State) {i : Nat} (h : i < s.frameLen.toNat) :
    (frameOperand s)[i]? = some ((Memory.read s.frame i).getD (Config.freeByte s.draws i)) := by
  rw [frameOperand, Memory.getElem?_block _ _ h, Nat.zero_add]

end Sys2Proof.Machine
end

