-- ==== Sys2Proof/Laws/Decoder.lean ====
section
/-! SUPPORT. Lengths and single bytes of the decoder's stages. -/

namespace Sys2Proof.Machine

@[simp] theorem length_pairSwap (x : List Byte) : (pairSwap x).length = x.length := by
  induction x using pairSwap.induct with
  | case1 a b t ih => simp [pairSwap, ih]
  | case2 x h => unfold pairSwap; split <;> first | rfl | exact absurd rfl (h _ _ _)

@[simp] theorem length_canon (v : Variant) (f : List Byte) : (canon v f).length = f.length := by
  unfold canon
  split <;> simp

@[simp] theorem length_audioOf (f : List Byte) : (audioOf f).length = f.length / 10 := by
  simp [audioOf, audPeriod]

@[simp] theorem length_demux (t : List PixSrc) (r : List Byte) : (demux t r).length = t.length := by
  simp [demux]

@[simp] theorem length_rowMirror (p : List Byte) : (rowMirror p).length = 34560 := by
  simp [rowMirror, pixBytes]

@[simp] theorem length_pixelsOf (c : CfgData) (v : Variant) (f : List Byte) :
    (pixelsOf c v f).length = 34560 := by
  simp [pixelsOf]

theorem getElem?_audioOf (f : List Byte) {j : Nat} (h : j < f.length / 10) :
    (audioOf f)[j]? = some (f[9 + 10 * j]?.getD 0) := by
  simp [audioOf, audPeriod, h]

theorem getElem?_demux (t : List PixSrc) (r : List Byte) (o : Nat) :
    (demux t r)[o]? = t[o]?.map fun e => expand e.sel (r[e.src]?.getD 0) := by
  simp [demux]

theorem getElem?_rowMirror (p : List Byte) {o : Nat} (h : o < 34560) :
    (rowMirror p)[o]? = some (p[432 * (o / 432) + (431 - o % 432)]?.getD 0) := by
  simp [rowMirror, pixBytes, rowBytes, h]

/-- A well-formed configuration has well-formed pixel maps, whatever the mode. -/
theorem pixmapWf_get (c : Cfg) (m : Mode) : pixmapWf (c.data.pixmap.get m) = true := by
  have h := c.ok
  simp only [CfgData.wf, CfgData.pixmapsWf, Bool.and_eq_true] at h
  cases m <;> simp only [PerMode.get, h]

theorem length_pixmap (c : Cfg) (m : Mode) : (c.data.pixmap.get m).length = 34560 := by
  have h := pixmapWf_get c m
  simp only [pixmapWf, Bool.and_eq_true, beq_iff_eq] at h
  exact h.1

theorem pixmap_entry (c : Cfg) {m : Mode} {e : PixSrc} (h : e ∈ c.data.pixmap.get m) :
    e.src < 19600 ∧ e.src % 10 ≠ 0 := by
  have h' := pixmapWf_get c m
  simp only [pixmapWf, Bool.and_eq_true, List.all_eq_true] at h'
  exact e.wf_iff.1 (h'.2 e h)

end Sys2Proof.Machine
end

