-- ==== Sys2Proof/Laws/State.lean ====
section
/-! SUPPORT. What each named update does to each field of the state, so that no later proof unfolds a record update. -/

namespace Sys2Proof.Machine

/-! ### raise -/

@[simp] theorem raise_cfg (x : Cause) (s : State) : (raise x s).cfg = s.cfg := rfl
@[simp] theorem raise_src (x : Cause) (s : State) : (raise x s).src = s.src := rfl
@[simp] theorem raise_srcLen (x : Cause) (s : State) : (raise x s).srcLen = s.srcLen := rfl
@[simp] theorem raise_start (x : Cause) (s : State) : (raise x s).start = s.start := rfl
@[simp] theorem raise_ls (x : Cause) (s : State) : (raise x s).ls = s.ls := rfl
@[simp] theorem raise_ll (x : Cause) (s : State) : (raise x s).ll = s.ll := rfl
@[simp] theorem raise_locOff (x : Cause) (s : State) : (raise x s).locOff = s.locOff := rfl
@[simp] theorem raise_locVar (x : Cause) (s : State) : (raise x s).locVar = s.locVar := rfl
@[simp] theorem raise_curOff (x : Cause) (s : State) : (raise x s).curOff = s.curOff := rfl
@[simp] theorem raise_curVar (x : Cause) (s : State) : (raise x s).curVar = s.curVar := rfl
@[simp] theorem raise_expected (x : Cause) (s : State) : (raise x s).expected = s.expected := rfl
@[simp] theorem raise_drift (x : Cause) (s : State) : (raise x s).drift = s.drift := rfl
@[simp] theorem raise_count (x : Cause) (s : State) : (raise x s).count = s.count := rfl
@[simp] theorem raise_frameLen (x : Cause) (s : State) : (raise x s).frameLen = s.frameLen := rfl
@[simp] theorem raise_audioLen (x : Cause) (s : State) : (raise x s).audioLen = s.audioLen := rfl
@[simp] theorem raise_wst (x : Cause) (s : State) : (raise x s).wst = x.endState := rfl
@[simp] theorem raise_cause (x : Cause) (s : State) : (raise x s).cause = x := rfl
@[simp] theorem raise_busy (x : Cause) (s : State) : (raise x s).busy = s.busy := rfl
@[simp] theorem raise_locFound (x : Cause) (s : State) : (raise x s).locFound = s.locFound := rfl
@[simp] theorem raise_seedNHit (x : Cause) (s : State) : (raise x s).seedNHit = s.seedNHit := rfl
@[simp] theorem raise_seedSHit (x : Cause) (s : State) : (raise x s).seedSHit = s.seedSHit := rfl
@[simp] theorem raise_emit (x : Cause) (s : State) : (raise x s).emit = false := rfl
@[simp] theorem raise_curValid (x : Cause) (s : State) : (raise x s).curValid = s.curValid := rfl
@[simp] theorem raise_aligned (x : Cause) (s : State) : (raise x s).aligned = s.aligned := rfl
@[simp] theorem raise_outValid (x : Cause) (s : State) : (raise x s).outValid = false := rfl
@[simp] theorem raise_frame (x : Cause) (s : State) : (raise x s).frame = s.frame := rfl
@[simp] theorem raise_audio (x : Cause) (s : State) : (raise x s).audio = s.audio := rfl
@[simp] theorem raise_pixel (x : Cause) (s : State) : (raise x s).pixel = s.pixel := rfl
@[simp] theorem raise_port (x : Cause) (s : State) : (raise x s).port = s.port := rfl
@[simp] theorem raise_readData (x : Cause) (s : State) : (raise x s).readData = s.readData := rfl
@[simp] theorem raise_draws (x : Cause) (s : State) : (raise x s).draws = s.draws := rfl

/-! ### startPass -/

@[simp] theorem startPass_cfg (s : State) : (startPass s).cfg = s.cfg := rfl
@[simp] theorem startPass_src (s : State) : (startPass s).src = s.src := rfl
@[simp] theorem startPass_srcLen (s : State) : (startPass s).srcLen = s.srcLen := rfl
@[simp] theorem startPass_start (s : State) : (startPass s).start = s.start := rfl
@[simp] theorem startPass_ls (s : State) : (startPass s).ls = s.ls := rfl
@[simp] theorem startPass_ll (s : State) : (startPass s).ll = s.ll := rfl
@[simp] theorem startPass_locOff (s : State) : (startPass s).locOff = s.locOff := rfl
@[simp] theorem startPass_locVar (s : State) : (startPass s).locVar = s.locVar := rfl
@[simp] theorem startPass_curOff (s : State) : (startPass s).curOff = 0 := rfl
@[simp] theorem startPass_curVar (s : State) : (startPass s).curVar = .monoN := rfl
@[simp] theorem startPass_expected (s : State) : (startPass s).expected = 0 := rfl
@[simp] theorem startPass_drift (s : State) : (startPass s).drift = 0 := rfl
@[simp] theorem startPass_count (s : State) : (startPass s).count = 0 := rfl
@[simp] theorem startPass_frameLen (s : State) : (startPass s).frameLen = s.frameLen := rfl
@[simp] theorem startPass_audioLen (s : State) : (startPass s).audioLen = s.audioLen := rfl
@[simp] theorem startPass_wst (s : State) : (startPass s).wst = .seeking := rfl
@[simp] theorem startPass_cause (s : State) : (startPass s).cause = .clear := rfl
@[simp] theorem startPass_busy (s : State) : (startPass s).busy = s.busy := rfl
@[simp] theorem startPass_locFound (s : State) : (startPass s).locFound = s.locFound := rfl
@[simp] theorem startPass_seedNHit (s : State) : (startPass s).seedNHit = s.seedNHit := rfl
@[simp] theorem startPass_seedSHit (s : State) : (startPass s).seedSHit = s.seedSHit := rfl
@[simp] theorem startPass_emit (s : State) : (startPass s).emit = false := rfl
@[simp] theorem startPass_curValid (s : State) : (startPass s).curValid = false := rfl
@[simp] theorem startPass_aligned (s : State) : (startPass s).aligned = false := rfl
@[simp] theorem startPass_outValid (s : State) : (startPass s).outValid = false := rfl
@[simp] theorem startPass_frame (s : State) : (startPass s).frame = s.frame := rfl
@[simp] theorem startPass_audio (s : State) : (startPass s).audio = s.audio := rfl
@[simp] theorem startPass_pixel (s : State) : (startPass s).pixel = s.pixel := rfl
@[simp] theorem startPass_port (s : State) : (startPass s).port = s.port := rfl
@[simp] theorem startPass_readData (s : State) : (startPass s).readData = s.readData := rfl
@[simp] theorem startPass_draws (s : State) : (startPass s).draws = s.draws := rfl

/-! ### setSeedHits -/

@[simp] theorem setSeedHits_cfg (s : State) (n w : Bool) : (s.setSeedHits n w).cfg = s.cfg := rfl
@[simp] theorem setSeedHits_src (s : State) (n w : Bool) : (s.setSeedHits n w).src = s.src := rfl
@[simp] theorem setSeedHits_srcLen (s : State) (n w : Bool) : (s.setSeedHits n w).srcLen = s.srcLen := rfl
@[simp] theorem setSeedHits_start (s : State) (n w : Bool) : (s.setSeedHits n w).start = s.start := rfl
@[simp] theorem setSeedHits_ls (s : State) (n w : Bool) : (s.setSeedHits n w).ls = s.ls := rfl
@[simp] theorem setSeedHits_ll (s : State) (n w : Bool) : (s.setSeedHits n w).ll = s.ll := rfl
@[simp] theorem setSeedHits_locOff (s : State) (n w : Bool) : (s.setSeedHits n w).locOff = s.locOff := rfl
@[simp] theorem setSeedHits_locVar (s : State) (n w : Bool) : (s.setSeedHits n w).locVar = s.locVar := rfl
@[simp] theorem setSeedHits_curOff (s : State) (n w : Bool) : (s.setSeedHits n w).curOff = s.curOff := rfl
@[simp] theorem setSeedHits_curVar (s : State) (n w : Bool) : (s.setSeedHits n w).curVar = s.curVar := rfl
@[simp] theorem setSeedHits_expected (s : State) (n w : Bool) : (s.setSeedHits n w).expected = s.expected := rfl
@[simp] theorem setSeedHits_drift (s : State) (n w : Bool) : (s.setSeedHits n w).drift = s.drift := rfl
@[simp] theorem setSeedHits_count (s : State) (n w : Bool) : (s.setSeedHits n w).count = s.count := rfl
@[simp] theorem setSeedHits_frameLen (s : State) (n w : Bool) : (s.setSeedHits n w).frameLen = s.frameLen := rfl
@[simp] theorem setSeedHits_audioLen (s : State) (n w : Bool) : (s.setSeedHits n w).audioLen = s.audioLen := rfl
@[simp] theorem setSeedHits_wst (s : State) (n w : Bool) : (s.setSeedHits n w).wst = s.wst := rfl
@[simp] theorem setSeedHits_cause (s : State) (n w : Bool) : (s.setSeedHits n w).cause = s.cause := rfl
@[simp] theorem setSeedHits_busy (s : State) (n w : Bool) : (s.setSeedHits n w).busy = s.busy := rfl
@[simp] theorem setSeedHits_locFound (s : State) (n w : Bool) : (s.setSeedHits n w).locFound = s.locFound := rfl
@[simp] theorem setSeedHits_seedNHit (s : State) (n w : Bool) : (s.setSeedHits n w).seedNHit = n := rfl
@[simp] theorem setSeedHits_seedSHit (s : State) (n w : Bool) : (s.setSeedHits n w).seedSHit = w := rfl
@[simp] theorem setSeedHits_emit (s : State) (n w : Bool) : (s.setSeedHits n w).emit = s.emit := rfl
@[simp] theorem setSeedHits_curValid (s : State) (n w : Bool) : (s.setSeedHits n w).curValid = s.curValid := rfl
@[simp] theorem setSeedHits_aligned (s : State) (n w : Bool) : (s.setSeedHits n w).aligned = s.aligned := rfl
@[simp] theorem setSeedHits_outValid (s : State) (n w : Bool) : (s.setSeedHits n w).outValid = s.outValid := rfl
@[simp] theorem setSeedHits_frame (s : State) (n w : Bool) : (s.setSeedHits n w).frame = s.frame := rfl
@[simp] theorem setSeedHits_audio (s : State) (n w : Bool) : (s.setSeedHits n w).audio = s.audio := rfl
@[simp] theorem setSeedHits_pixel (s : State) (n w : Bool) : (s.setSeedHits n w).pixel = s.pixel := rfl
@[simp] theorem setSeedHits_port (s : State) (n w : Bool) : (s.setSeedHits n w).port = s.port := rfl
@[simp] theorem setSeedHits_readData (s : State) (n w : Bool) : (s.setSeedHits n w).readData = s.readData := rfl
@[simp] theorem setSeedHits_draws (s : State) (n w : Bool) : (s.setSeedHits n w).draws = s.draws := rfl

/-! ### setLocated -/

@[simp] theorem setLocated_cfg (s : State) (p : Word) (v : Variant) : (s.setLocated p v).cfg = s.cfg := rfl
@[simp] theorem setLocated_src (s : State) (p : Word) (v : Variant) : (s.setLocated p v).src = s.src := rfl
@[simp] theorem setLocated_srcLen (s : State) (p : Word) (v : Variant) : (s.setLocated p v).srcLen = s.srcLen := rfl
@[simp] theorem setLocated_start (s : State) (p : Word) (v : Variant) : (s.setLocated p v).start = s.start := rfl
@[simp] theorem setLocated_ls (s : State) (p : Word) (v : Variant) : (s.setLocated p v).ls = s.ls := rfl
@[simp] theorem setLocated_ll (s : State) (p : Word) (v : Variant) : (s.setLocated p v).ll = s.ll := rfl
@[simp] theorem setLocated_locOff (s : State) (p : Word) (v : Variant) : (s.setLocated p v).locOff = p := rfl
@[simp] theorem setLocated_locVar (s : State) (p : Word) (v : Variant) : (s.setLocated p v).locVar = v := rfl
@[simp] theorem setLocated_curOff (s : State) (p : Word) (v : Variant) : (s.setLocated p v).curOff = s.curOff := rfl
@[simp] theorem setLocated_curVar (s : State) (p : Word) (v : Variant) : (s.setLocated p v).curVar = s.curVar := rfl
@[simp] theorem setLocated_expected (s : State) (p : Word) (v : Variant) :
    (s.setLocated p v).expected = s.expected := rfl
@[simp] theorem setLocated_drift (s : State) (p : Word) (v : Variant) : (s.setLocated p v).drift = s.drift := rfl
@[simp] theorem setLocated_count (s : State) (p : Word) (v : Variant) : (s.setLocated p v).count = s.count := rfl
@[simp] theorem setLocated_frameLen (s : State) (p : Word) (v : Variant) :
    (s.setLocated p v).frameLen = s.frameLen := rfl
@[simp] theorem setLocated_audioLen (s : State) (p : Word) (v : Variant) :
    (s.setLocated p v).audioLen = s.audioLen := rfl
@[simp] theorem setLocated_wst (s : State) (p : Word) (v : Variant) : (s.setLocated p v).wst = s.wst := rfl
@[simp] theorem setLocated_cause (s : State) (p : Word) (v : Variant) : (s.setLocated p v).cause = s.cause := rfl
@[simp] theorem setLocated_busy (s : State) (p : Word) (v : Variant) : (s.setLocated p v).busy = s.busy := rfl
@[simp] theorem setLocated_locFound (s : State) (p : Word) (v : Variant) : (s.setLocated p v).locFound = true := rfl
@[simp] theorem setLocated_seedNHit (s : State) (p : Word) (v : Variant) :
    (s.setLocated p v).seedNHit = s.seedNHit := rfl
@[simp] theorem setLocated_seedSHit (s : State) (p : Word) (v : Variant) :
    (s.setLocated p v).seedSHit = s.seedSHit := rfl
@[simp] theorem setLocated_emit (s : State) (p : Word) (v : Variant) : (s.setLocated p v).emit = s.emit := rfl
@[simp] theorem setLocated_curValid (s : State) (p : Word) (v : Variant) :
    (s.setLocated p v).curValid = s.curValid := rfl
@[simp] theorem setLocated_aligned (s : State) (p : Word) (v : Variant) :
    (s.setLocated p v).aligned = s.aligned := rfl
@[simp] theorem setLocated_outValid (s : State) (p : Word) (v : Variant) :
    (s.setLocated p v).outValid = s.outValid := rfl
@[simp] theorem setLocated_frame (s : State) (p : Word) (v : Variant) : (s.setLocated p v).frame = s.frame := rfl
@[simp] theorem setLocated_audio (s : State) (p : Word) (v : Variant) : (s.setLocated p v).audio = s.audio := rfl
@[simp] theorem setLocated_pixel (s : State) (p : Word) (v : Variant) : (s.setLocated p v).pixel = s.pixel := rfl
@[simp] theorem setLocated_port (s : State) (p : Word) (v : Variant) : (s.setLocated p v).port = s.port := rfl
@[simp] theorem setLocated_readData (s : State) (p : Word) (v : Variant) :
    (s.setLocated p v).readData = s.readData := rfl
@[simp] theorem setLocated_draws (s : State) (p : Word) (v : Variant) : (s.setLocated p v).draws = s.draws := rfl

/-! ### setNotLocated -/

@[simp] theorem setNotLocated_cfg (s : State) : (s.setNotLocated).cfg = s.cfg := rfl
@[simp] theorem setNotLocated_src (s : State) : (s.setNotLocated).src = s.src := rfl
@[simp] theorem setNotLocated_srcLen (s : State) : (s.setNotLocated).srcLen = s.srcLen := rfl
@[simp] theorem setNotLocated_start (s : State) : (s.setNotLocated).start = s.start := rfl
@[simp] theorem setNotLocated_ls (s : State) : (s.setNotLocated).ls = s.ls := rfl
@[simp] theorem setNotLocated_ll (s : State) : (s.setNotLocated).ll = s.ll := rfl
@[simp] theorem setNotLocated_locOff (s : State) : (s.setNotLocated).locOff = s.locOff := rfl
@[simp] theorem setNotLocated_locVar (s : State) : (s.setNotLocated).locVar = s.locVar := rfl
@[simp] theorem setNotLocated_curOff (s : State) : (s.setNotLocated).curOff = s.curOff := rfl
@[simp] theorem setNotLocated_curVar (s : State) : (s.setNotLocated).curVar = s.curVar := rfl
@[simp] theorem setNotLocated_expected (s : State) : (s.setNotLocated).expected = s.expected := rfl
@[simp] theorem setNotLocated_drift (s : State) : (s.setNotLocated).drift = s.drift := rfl
@[simp] theorem setNotLocated_count (s : State) : (s.setNotLocated).count = s.count := rfl
@[simp] theorem setNotLocated_frameLen (s : State) : (s.setNotLocated).frameLen = s.frameLen := rfl
@[simp] theorem setNotLocated_audioLen (s : State) : (s.setNotLocated).audioLen = s.audioLen := rfl
@[simp] theorem setNotLocated_wst (s : State) : (s.setNotLocated).wst = s.wst := rfl
@[simp] theorem setNotLocated_cause (s : State) : (s.setNotLocated).cause = s.cause := rfl
@[simp] theorem setNotLocated_busy (s : State) : (s.setNotLocated).busy = s.busy := rfl
@[simp] theorem setNotLocated_locFound (s : State) : (s.setNotLocated).locFound = false := rfl
@[simp] theorem setNotLocated_seedNHit (s : State) : (s.setNotLocated).seedNHit = s.seedNHit := rfl
@[simp] theorem setNotLocated_seedSHit (s : State) : (s.setNotLocated).seedSHit = s.seedSHit := rfl
@[simp] theorem setNotLocated_emit (s : State) : (s.setNotLocated).emit = s.emit := rfl
@[simp] theorem setNotLocated_curValid (s : State) : (s.setNotLocated).curValid = s.curValid := rfl
@[simp] theorem setNotLocated_aligned (s : State) : (s.setNotLocated).aligned = s.aligned := rfl
@[simp] theorem setNotLocated_outValid (s : State) : (s.setNotLocated).outValid = s.outValid := rfl
@[simp] theorem setNotLocated_frame (s : State) : (s.setNotLocated).frame = s.frame := rfl
@[simp] theorem setNotLocated_audio (s : State) : (s.setNotLocated).audio = s.audio := rfl
@[simp] theorem setNotLocated_pixel (s : State) : (s.setNotLocated).pixel = s.pixel := rfl
@[simp] theorem setNotLocated_port (s : State) : (s.setNotLocated).port = s.port := rfl
@[simp] theorem setNotLocated_readData (s : State) : (s.setNotLocated).readData = s.readData := rfl
@[simp] theorem setNotLocated_draws (s : State) : (s.setNotLocated).draws = s.draws := rfl

/-! ### setFrame -/

@[simp] theorem setFrame_cfg (s : State) (bs : List Byte) : (s.setFrame bs).cfg = s.cfg := rfl
@[simp] theorem setFrame_src (s : State) (bs : List Byte) : (s.setFrame bs).src = s.src := rfl
@[simp] theorem setFrame_srcLen (s : State) (bs : List Byte) : (s.setFrame bs).srcLen = s.srcLen := rfl
@[simp] theorem setFrame_start (s : State) (bs : List Byte) : (s.setFrame bs).start = s.start := rfl
@[simp] theorem setFrame_ls (s : State) (bs : List Byte) : (s.setFrame bs).ls = s.ls := rfl
@[simp] theorem setFrame_ll (s : State) (bs : List Byte) : (s.setFrame bs).ll = s.ll := rfl
@[simp] theorem setFrame_locOff (s : State) (bs : List Byte) : (s.setFrame bs).locOff = s.locOff := rfl
@[simp] theorem setFrame_locVar (s : State) (bs : List Byte) : (s.setFrame bs).locVar = s.locVar := rfl
@[simp] theorem setFrame_curOff (s : State) (bs : List Byte) : (s.setFrame bs).curOff = s.curOff := rfl
@[simp] theorem setFrame_curVar (s : State) (bs : List Byte) : (s.setFrame bs).curVar = s.curVar := rfl
@[simp] theorem setFrame_expected (s : State) (bs : List Byte) : (s.setFrame bs).expected = s.expected := rfl
@[simp] theorem setFrame_drift (s : State) (bs : List Byte) : (s.setFrame bs).drift = s.drift := rfl
@[simp] theorem setFrame_count (s : State) (bs : List Byte) : (s.setFrame bs).count = s.count := rfl
@[simp] theorem setFrame_frameLen (s : State) (bs : List Byte) :
    (s.setFrame bs).frameLen = BitVec.ofNat 32 bs.length := rfl
@[simp] theorem setFrame_audioLen (s : State) (bs : List Byte) : (s.setFrame bs).audioLen = s.audioLen := rfl
@[simp] theorem setFrame_wst (s : State) (bs : List Byte) : (s.setFrame bs).wst = s.wst := rfl
@[simp] theorem setFrame_cause (s : State) (bs : List Byte) : (s.setFrame bs).cause = s.cause := rfl
@[simp] theorem setFrame_busy (s : State) (bs : List Byte) : (s.setFrame bs).busy = s.busy := rfl
@[simp] theorem setFrame_locFound (s : State) (bs : List Byte) : (s.setFrame bs).locFound = s.locFound := rfl
@[simp] theorem setFrame_seedNHit (s : State) (bs : List Byte) : (s.setFrame bs).seedNHit = s.seedNHit := rfl
@[simp] theorem setFrame_seedSHit (s : State) (bs : List Byte) : (s.setFrame bs).seedSHit = s.seedSHit := rfl
@[simp] theorem setFrame_emit (s : State) (bs : List Byte) : (s.setFrame bs).emit = s.emit := rfl
@[simp] theorem setFrame_curValid (s : State) (bs : List Byte) : (s.setFrame bs).curValid = s.curValid := rfl
@[simp] theorem setFrame_aligned (s : State) (bs : List Byte) : (s.setFrame bs).aligned = s.aligned := rfl
@[simp] theorem setFrame_outValid (s : State) (bs : List Byte) : (s.setFrame bs).outValid = s.outValid := rfl
@[simp] theorem setFrame_frame (s : State) (bs : List Byte) : (s.setFrame bs).frame = s.frame.writePrefix bs := rfl
@[simp] theorem setFrame_audio (s : State) (bs : List Byte) : (s.setFrame bs).audio = s.audio := rfl
@[simp] theorem setFrame_pixel (s : State) (bs : List Byte) : (s.setFrame bs).pixel = s.pixel := rfl
@[simp] theorem setFrame_port (s : State) (bs : List Byte) : (s.setFrame bs).port = s.port := rfl
@[simp] theorem setFrame_readData (s : State) (bs : List Byte) : (s.setFrame bs).readData = s.readData := rfl
@[simp] theorem setFrame_draws (s : State) (bs : List Byte) : (s.setFrame bs).draws = s.draws := rfl

/-! ### setDecoded -/

@[simp] theorem setDecoded_cfg (s : State) (a q : List Byte) : (s.setDecoded a q).cfg = s.cfg := rfl
@[simp] theorem setDecoded_src (s : State) (a q : List Byte) : (s.setDecoded a q).src = s.src := rfl
@[simp] theorem setDecoded_srcLen (s : State) (a q : List Byte) : (s.setDecoded a q).srcLen = s.srcLen := rfl
@[simp] theorem setDecoded_start (s : State) (a q : List Byte) : (s.setDecoded a q).start = s.start := rfl
@[simp] theorem setDecoded_ls (s : State) (a q : List Byte) : (s.setDecoded a q).ls = s.ls := rfl
@[simp] theorem setDecoded_ll (s : State) (a q : List Byte) : (s.setDecoded a q).ll = s.ll := rfl
@[simp] theorem setDecoded_locOff (s : State) (a q : List Byte) : (s.setDecoded a q).locOff = s.locOff := rfl
@[simp] theorem setDecoded_locVar (s : State) (a q : List Byte) : (s.setDecoded a q).locVar = s.locVar := rfl
@[simp] theorem setDecoded_curOff (s : State) (a q : List Byte) : (s.setDecoded a q).curOff = s.curOff := rfl
@[simp] theorem setDecoded_curVar (s : State) (a q : List Byte) : (s.setDecoded a q).curVar = s.curVar := rfl
@[simp] theorem setDecoded_expected (s : State) (a q : List Byte) : (s.setDecoded a q).expected = s.expected := rfl
@[simp] theorem setDecoded_drift (s : State) (a q : List Byte) : (s.setDecoded a q).drift = s.drift := rfl
@[simp] theorem setDecoded_count (s : State) (a q : List Byte) : (s.setDecoded a q).count = s.count := rfl
@[simp] theorem setDecoded_frameLen (s : State) (a q : List Byte) : (s.setDecoded a q).frameLen = s.frameLen := rfl
@[simp] theorem setDecoded_audioLen (s : State) (a q : List Byte) :
    (s.setDecoded a q).audioLen = BitVec.ofNat 32 a.length := rfl
@[simp] theorem setDecoded_wst (s : State) (a q : List Byte) : (s.setDecoded a q).wst = s.wst := rfl
@[simp] theorem setDecoded_cause (s : State) (a q : List Byte) : (s.setDecoded a q).cause = s.cause := rfl
@[simp] theorem setDecoded_busy (s : State) (a q : List Byte) : (s.setDecoded a q).busy = s.busy := rfl
@[simp] theorem setDecoded_locFound (s : State) (a q : List Byte) : (s.setDecoded a q).locFound = s.locFound := rfl
@[simp] theorem setDecoded_seedNHit (s : State) (a q : List Byte) : (s.setDecoded a q).seedNHit = s.seedNHit := rfl
@[simp] theorem setDecoded_seedSHit (s : State) (a q : List Byte) : (s.setDecoded a q).seedSHit = s.seedSHit := rfl
@[simp] theorem setDecoded_emit (s : State) (a q : List Byte) : (s.setDecoded a q).emit = s.emit := rfl
@[simp] theorem setDecoded_curValid (s : State) (a q : List Byte) : (s.setDecoded a q).curValid = s.curValid := rfl
@[simp] theorem setDecoded_aligned (s : State) (a q : List Byte) : (s.setDecoded a q).aligned = s.aligned := rfl
@[simp] theorem setDecoded_outValid (s : State) (a q : List Byte) : (s.setDecoded a q).outValid = true := rfl
@[simp] theorem setDecoded_frame (s : State) (a q : List Byte) : (s.setDecoded a q).frame = s.frame := rfl
@[simp] theorem setDecoded_audio (s : State) (a q : List Byte) :
    (s.setDecoded a q).audio = s.audio.writePrefix a := rfl
@[simp] theorem setDecoded_pixel (s : State) (a q : List Byte) :
    (s.setDecoded a q).pixel = s.pixel.writePrefix q := rfl
@[simp] theorem setDecoded_port (s : State) (a q : List Byte) : (s.setDecoded a q).port = s.port := rfl
@[simp] theorem setDecoded_readData (s : State) (a q : List Byte) : (s.setDecoded a q).readData = s.readData := rfl
@[simp] theorem setDecoded_draws (s : State) (a q : List Byte) : (s.setDecoded a q).draws = s.draws + 1 := rfl

/-! ### withPort -/

@[simp] theorem withPort_cfg (s : State) (r : List PortEvent) : (s.withPort r).cfg = s.cfg := rfl
@[simp] theorem withPort_src (s : State) (r : List PortEvent) : (s.withPort r).src = s.src := rfl
@[simp] theorem withPort_srcLen (s : State) (r : List PortEvent) : (s.withPort r).srcLen = s.srcLen := rfl
@[simp] theorem withPort_start (s : State) (r : List PortEvent) : (s.withPort r).start = s.start := rfl
@[simp] theorem withPort_ls (s : State) (r : List PortEvent) : (s.withPort r).ls = s.ls := rfl
@[simp] theorem withPort_ll (s : State) (r : List PortEvent) : (s.withPort r).ll = s.ll := rfl
@[simp] theorem withPort_locOff (s : State) (r : List PortEvent) : (s.withPort r).locOff = s.locOff := rfl
@[simp] theorem withPort_locVar (s : State) (r : List PortEvent) : (s.withPort r).locVar = s.locVar := rfl
@[simp] theorem withPort_curOff (s : State) (r : List PortEvent) : (s.withPort r).curOff = s.curOff := rfl
@[simp] theorem withPort_curVar (s : State) (r : List PortEvent) : (s.withPort r).curVar = s.curVar := rfl
@[simp] theorem withPort_expected (s : State) (r : List PortEvent) : (s.withPort r).expected = s.expected := rfl
@[simp] theorem withPort_drift (s : State) (r : List PortEvent) : (s.withPort r).drift = s.drift := rfl
@[simp] theorem withPort_count (s : State) (r : List PortEvent) : (s.withPort r).count = s.count := rfl
@[simp] theorem withPort_frameLen (s : State) (r : List PortEvent) : (s.withPort r).frameLen = s.frameLen := rfl
@[simp] theorem withPort_audioLen (s : State) (r : List PortEvent) : (s.withPort r).audioLen = s.audioLen := rfl
@[simp] theorem withPort_wst (s : State) (r : List PortEvent) : (s.withPort r).wst = s.wst := rfl
@[simp] theorem withPort_cause (s : State) (r : List PortEvent) : (s.withPort r).cause = s.cause := rfl
@[simp] theorem withPort_busy (s : State) (r : List PortEvent) : (s.withPort r).busy = s.busy := rfl
@[simp] theorem withPort_locFound (s : State) (r : List PortEvent) : (s.withPort r).locFound = s.locFound := rfl
@[simp] theorem withPort_seedNHit (s : State) (r : List PortEvent) : (s.withPort r).seedNHit = s.seedNHit := rfl
@[simp] theorem withPort_seedSHit (s : State) (r : List PortEvent) : (s.withPort r).seedSHit = s.seedSHit := rfl
@[simp] theorem withPort_emit (s : State) (r : List PortEvent) : (s.withPort r).emit = s.emit := rfl
@[simp] theorem withPort_curValid (s : State) (r : List PortEvent) : (s.withPort r).curValid = s.curValid := rfl
@[simp] theorem withPort_aligned (s : State) (r : List PortEvent) : (s.withPort r).aligned = s.aligned := rfl
@[simp] theorem withPort_outValid (s : State) (r : List PortEvent) : (s.withPort r).outValid = s.outValid := rfl
@[simp] theorem withPort_frame (s : State) (r : List PortEvent) : (s.withPort r).frame = s.frame := rfl
@[simp] theorem withPort_audio (s : State) (r : List PortEvent) : (s.withPort r).audio = s.audio := rfl
@[simp] theorem withPort_pixel (s : State) (r : List PortEvent) : (s.withPort r).pixel = s.pixel := rfl
@[simp] theorem withPort_port (s : State) (r : List PortEvent) : (s.withPort r).port = r := rfl
@[simp] theorem withPort_readData (s : State) (r : List PortEvent) : (s.withPort r).readData = s.readData := rfl
@[simp] theorem withPort_draws (s : State) (r : List PortEvent) : (s.withPort r).draws = s.draws := rfl

/-! ### accept -/

@[simp] theorem accept_cfg (p : Nat) (v : Variant) (d : Nat) (s : State) : (accept p v d s).cfg = s.cfg := rfl
@[simp] theorem accept_src (p : Nat) (v : Variant) (d : Nat) (s : State) : (accept p v d s).src = s.src := rfl
@[simp] theorem accept_srcLen (p : Nat) (v : Variant) (d : Nat) (s : State) :
    (accept p v d s).srcLen = s.srcLen := rfl
@[simp] theorem accept_start (p : Nat) (v : Variant) (d : Nat) (s : State) : (accept p v d s).start = s.start := rfl
@[simp] theorem accept_ls (p : Nat) (v : Variant) (d : Nat) (s : State) : (accept p v d s).ls = s.ls := rfl
@[simp] theorem accept_ll (p : Nat) (v : Variant) (d : Nat) (s : State) : (accept p v d s).ll = s.ll := rfl
@[simp] theorem accept_locOff (p : Nat) (v : Variant) (d : Nat) (s : State) :
    (accept p v d s).locOff = s.locOff := rfl
@[simp] theorem accept_locVar (p : Nat) (v : Variant) (d : Nat) (s : State) :
    (accept p v d s).locVar = s.locVar := rfl
@[simp] theorem accept_curOff (p : Nat) (v : Variant) (d : Nat) (s : State) :
    (accept p v d s).curOff = BitVec.ofNat 32 p := rfl
@[simp] theorem accept_curVar (p : Nat) (v : Variant) (d : Nat) (s : State) : (accept p v d s).curVar = v := rfl
@[simp] theorem accept_expected (p : Nat) (v : Variant) (d : Nat) (s : State) :
    (accept p v d s).expected = BitVec.ofNat 32 (p + v.stride) := rfl
@[simp] theorem accept_drift (p : Nat) (v : Variant) (d : Nat) (s : State) :
    (accept p v d s).drift = BitVec.ofNat 32 d := rfl
@[simp] theorem accept_count (p : Nat) (v : Variant) (d : Nat) (s : State) :
    (accept p v d s).count = s.count + 1 := rfl
@[simp] theorem accept_frameLen (p : Nat) (v : Variant) (d : Nat) (s : State) :
    (accept p v d s).frameLen = s.frameLen := rfl
@[simp] theorem accept_audioLen (p : Nat) (v : Variant) (d : Nat) (s : State) :
    (accept p v d s).audioLen = s.audioLen := rfl
@[simp] theorem accept_wst (p : Nat) (v : Variant) (d : Nat) (s : State) : (accept p v d s).wst = .locked := rfl
@[simp] theorem accept_cause (p : Nat) (v : Variant) (d : Nat) (s : State) : (accept p v d s).cause = s.cause := rfl
@[simp] theorem accept_busy (p : Nat) (v : Variant) (d : Nat) (s : State) : (accept p v d s).busy = s.busy := rfl
@[simp] theorem accept_locFound (p : Nat) (v : Variant) (d : Nat) (s : State) :
    (accept p v d s).locFound = s.locFound := rfl
@[simp] theorem accept_seedNHit (p : Nat) (v : Variant) (d : Nat) (s : State) :
    (accept p v d s).seedNHit = s.seedNHit := rfl
@[simp] theorem accept_seedSHit (p : Nat) (v : Variant) (d : Nat) (s : State) :
    (accept p v d s).seedSHit = s.seedSHit := rfl
@[simp] theorem accept_emit (p : Nat) (v : Variant) (d : Nat) (s : State) : (accept p v d s).emit = true := rfl
@[simp] theorem accept_curValid (p : Nat) (v : Variant) (d : Nat) (s : State) :
    (accept p v d s).curValid = true := rfl
@[simp] theorem accept_aligned (p : Nat) (v : Variant) (d : Nat) (s : State) :
    (accept p v d s).aligned = alignedAt p := rfl
@[simp] theorem accept_outValid (p : Nat) (v : Variant) (d : Nat) (s : State) :
    (accept p v d s).outValid = s.outValid := rfl
@[simp] theorem accept_frame (p : Nat) (v : Variant) (d : Nat) (s : State) : (accept p v d s).frame = s.frame := rfl
@[simp] theorem accept_audio (p : Nat) (v : Variant) (d : Nat) (s : State) : (accept p v d s).audio = s.audio := rfl
@[simp] theorem accept_pixel (p : Nat) (v : Variant) (d : Nat) (s : State) : (accept p v d s).pixel = s.pixel := rfl
@[simp] theorem accept_port (p : Nat) (v : Variant) (d : Nat) (s : State) : (accept p v d s).port = s.port := rfl
@[simp] theorem accept_readData (p : Nat) (v : Variant) (d : Nat) (s : State) :
    (accept p v d s).readData = s.readData := rfl
@[simp] theorem accept_draws (p : Nat) (v : Variant) (d : Nat) (s : State) : (accept p v d s).draws = s.draws := rfl

/-! ### hopMissed -/

@[simp] theorem hopMissed_cfg (s : State) : (hopMissed s).cfg = s.cfg := rfl
@[simp] theorem hopMissed_src (s : State) : (hopMissed s).src = s.src := rfl
@[simp] theorem hopMissed_srcLen (s : State) : (hopMissed s).srcLen = s.srcLen := rfl
@[simp] theorem hopMissed_start (s : State) : (hopMissed s).start = s.start := rfl
@[simp] theorem hopMissed_ls (s : State) : (hopMissed s).ls = s.ls := rfl
@[simp] theorem hopMissed_ll (s : State) : (hopMissed s).ll = s.ll := rfl
@[simp] theorem hopMissed_locOff (s : State) : (hopMissed s).locOff = s.locOff := rfl
@[simp] theorem hopMissed_locVar (s : State) : (hopMissed s).locVar = s.locVar := rfl
@[simp] theorem hopMissed_curOff (s : State) : (hopMissed s).curOff = s.curOff := rfl
@[simp] theorem hopMissed_curVar (s : State) : (hopMissed s).curVar = s.curVar := rfl
@[simp] theorem hopMissed_expected (s : State) : (hopMissed s).expected = s.expected := rfl
@[simp] theorem hopMissed_drift (s : State) : (hopMissed s).drift = s.drift := rfl
@[simp] theorem hopMissed_count (s : State) : (hopMissed s).count = s.count := rfl
@[simp] theorem hopMissed_frameLen (s : State) : (hopMissed s).frameLen = s.frameLen := rfl
@[simp] theorem hopMissed_audioLen (s : State) : (hopMissed s).audioLen = s.audioLen := rfl
@[simp] theorem hopMissed_wst (s : State) : (hopMissed s).wst = .resyncing := rfl
@[simp] theorem hopMissed_cause (s : State) : (hopMissed s).cause = s.cause := rfl
@[simp] theorem hopMissed_busy (s : State) : (hopMissed s).busy = s.busy := rfl
@[simp] theorem hopMissed_locFound (s : State) : (hopMissed s).locFound = s.locFound := rfl
@[simp] theorem hopMissed_seedNHit (s : State) : (hopMissed s).seedNHit = s.seedNHit := rfl
@[simp] theorem hopMissed_seedSHit (s : State) : (hopMissed s).seedSHit = s.seedSHit := rfl
@[simp] theorem hopMissed_emit (s : State) : (hopMissed s).emit = false := rfl
@[simp] theorem hopMissed_curValid (s : State) : (hopMissed s).curValid = s.curValid := rfl
@[simp] theorem hopMissed_aligned (s : State) : (hopMissed s).aligned = s.aligned := rfl
@[simp] theorem hopMissed_outValid (s : State) : (hopMissed s).outValid = s.outValid := rfl
@[simp] theorem hopMissed_frame (s : State) : (hopMissed s).frame = s.frame := rfl
@[simp] theorem hopMissed_audio (s : State) : (hopMissed s).audio = s.audio := rfl
@[simp] theorem hopMissed_pixel (s : State) : (hopMissed s).pixel = s.pixel := rfl
@[simp] theorem hopMissed_port (s : State) : (hopMissed s).port = s.port := rfl
@[simp] theorem hopMissed_readData (s : State) : (hopMissed s).readData = s.readData := rfl
@[simp] theorem hopMissed_draws (s : State) : (hopMissed s).draws = s.draws := rfl

/-! ### clearEmit -/

@[simp] theorem clearEmit_cfg (s : State) : (clearEmit s).cfg = s.cfg := rfl
@[simp] theorem clearEmit_src (s : State) : (clearEmit s).src = s.src := rfl
@[simp] theorem clearEmit_srcLen (s : State) : (clearEmit s).srcLen = s.srcLen := rfl
@[simp] theorem clearEmit_start (s : State) : (clearEmit s).start = s.start := rfl
@[simp] theorem clearEmit_ls (s : State) : (clearEmit s).ls = s.ls := rfl
@[simp] theorem clearEmit_ll (s : State) : (clearEmit s).ll = s.ll := rfl
@[simp] theorem clearEmit_locOff (s : State) : (clearEmit s).locOff = s.locOff := rfl
@[simp] theorem clearEmit_locVar (s : State) : (clearEmit s).locVar = s.locVar := rfl
@[simp] theorem clearEmit_curOff (s : State) : (clearEmit s).curOff = s.curOff := rfl
@[simp] theorem clearEmit_curVar (s : State) : (clearEmit s).curVar = s.curVar := rfl
@[simp] theorem clearEmit_expected (s : State) : (clearEmit s).expected = s.expected := rfl
@[simp] theorem clearEmit_drift (s : State) : (clearEmit s).drift = s.drift := rfl
@[simp] theorem clearEmit_count (s : State) : (clearEmit s).count = s.count := rfl
@[simp] theorem clearEmit_frameLen (s : State) : (clearEmit s).frameLen = s.frameLen := rfl
@[simp] theorem clearEmit_audioLen (s : State) : (clearEmit s).audioLen = s.audioLen := rfl
@[simp] theorem clearEmit_wst (s : State) : (clearEmit s).wst = s.wst := rfl
@[simp] theorem clearEmit_cause (s : State) : (clearEmit s).cause = s.cause := rfl
@[simp] theorem clearEmit_busy (s : State) : (clearEmit s).busy = s.busy := rfl
@[simp] theorem clearEmit_locFound (s : State) : (clearEmit s).locFound = s.locFound := rfl
@[simp] theorem clearEmit_seedNHit (s : State) : (clearEmit s).seedNHit = s.seedNHit := rfl
@[simp] theorem clearEmit_seedSHit (s : State) : (clearEmit s).seedSHit = s.seedSHit := rfl
@[simp] theorem clearEmit_emit (s : State) : (clearEmit s).emit = false := rfl
@[simp] theorem clearEmit_curValid (s : State) : (clearEmit s).curValid = s.curValid := rfl
@[simp] theorem clearEmit_aligned (s : State) : (clearEmit s).aligned = s.aligned := rfl
@[simp] theorem clearEmit_outValid (s : State) : (clearEmit s).outValid = s.outValid := rfl
@[simp] theorem clearEmit_frame (s : State) : (clearEmit s).frame = s.frame := rfl
@[simp] theorem clearEmit_audio (s : State) : (clearEmit s).audio = s.audio := rfl
@[simp] theorem clearEmit_pixel (s : State) : (clearEmit s).pixel = s.pixel := rfl
@[simp] theorem clearEmit_port (s : State) : (clearEmit s).port = s.port := rfl
@[simp] theorem clearEmit_readData (s : State) : (clearEmit s).readData = s.readData := rfl
@[simp] theorem clearEmit_draws (s : State) : (clearEmit s).draws = s.draws := rfl

/-! ### clearOut -/

@[simp] theorem clearOut_cfg (s : State) : (clearOut s).cfg = s.cfg := rfl
@[simp] theorem clearOut_src (s : State) : (clearOut s).src = s.src := rfl
@[simp] theorem clearOut_srcLen (s : State) : (clearOut s).srcLen = s.srcLen := rfl
@[simp] theorem clearOut_start (s : State) : (clearOut s).start = s.start := rfl
@[simp] theorem clearOut_ls (s : State) : (clearOut s).ls = s.ls := rfl
@[simp] theorem clearOut_ll (s : State) : (clearOut s).ll = s.ll := rfl
@[simp] theorem clearOut_locOff (s : State) : (clearOut s).locOff = s.locOff := rfl
@[simp] theorem clearOut_locVar (s : State) : (clearOut s).locVar = s.locVar := rfl
@[simp] theorem clearOut_curOff (s : State) : (clearOut s).curOff = s.curOff := rfl
@[simp] theorem clearOut_curVar (s : State) : (clearOut s).curVar = s.curVar := rfl
@[simp] theorem clearOut_expected (s : State) : (clearOut s).expected = s.expected := rfl
@[simp] theorem clearOut_drift (s : State) : (clearOut s).drift = s.drift := rfl
@[simp] theorem clearOut_count (s : State) : (clearOut s).count = s.count := rfl
@[simp] theorem clearOut_frameLen (s : State) : (clearOut s).frameLen = s.frameLen := rfl
@[simp] theorem clearOut_audioLen (s : State) : (clearOut s).audioLen = s.audioLen := rfl
@[simp] theorem clearOut_wst (s : State) : (clearOut s).wst = s.wst := rfl
@[simp] theorem clearOut_cause (s : State) : (clearOut s).cause = s.cause := rfl
@[simp] theorem clearOut_busy (s : State) : (clearOut s).busy = s.busy := rfl
@[simp] theorem clearOut_locFound (s : State) : (clearOut s).locFound = s.locFound := rfl
@[simp] theorem clearOut_seedNHit (s : State) : (clearOut s).seedNHit = s.seedNHit := rfl
@[simp] theorem clearOut_seedSHit (s : State) : (clearOut s).seedSHit = s.seedSHit := rfl
@[simp] theorem clearOut_emit (s : State) : (clearOut s).emit = s.emit := rfl
@[simp] theorem clearOut_curValid (s : State) : (clearOut s).curValid = s.curValid := rfl
@[simp] theorem clearOut_aligned (s : State) : (clearOut s).aligned = s.aligned := rfl
@[simp] theorem clearOut_outValid (s : State) : (clearOut s).outValid = false := rfl
@[simp] theorem clearOut_frame (s : State) : (clearOut s).frame = s.frame := rfl
@[simp] theorem clearOut_audio (s : State) : (clearOut s).audio = s.audio := rfl
@[simp] theorem clearOut_pixel (s : State) : (clearOut s).pixel = s.pixel := rfl
@[simp] theorem clearOut_port (s : State) : (clearOut s).port = s.port := rfl
@[simp] theorem clearOut_readData (s : State) : (clearOut s).readData = s.readData := rfl
@[simp] theorem clearOut_draws (s : State) : (clearOut s).draws = s.draws := rfl

/-! ### fromOffset -/

@[simp] theorem fromOffset_cfg (s : State) (p : Nat) : (s.fromOffset p).cfg = s.cfg := rfl
@[simp] theorem fromOffset_src (s : State) (p : Nat) : (s.fromOffset p).src = Memory.skip s.src p := rfl
@[simp] theorem fromOffset_srcLen (s : State) (p : Nat) : (s.fromOffset p).srcLen = s.srcLen := rfl
@[simp] theorem fromOffset_start (s : State) (p : Nat) : (s.fromOffset p).start = s.start := rfl
@[simp] theorem fromOffset_ls (s : State) (p : Nat) : (s.fromOffset p).ls = s.ls := rfl
@[simp] theorem fromOffset_ll (s : State) (p : Nat) : (s.fromOffset p).ll = s.ll := rfl
@[simp] theorem fromOffset_locOff (s : State) (p : Nat) : (s.fromOffset p).locOff = s.locOff := rfl
@[simp] theorem fromOffset_locVar (s : State) (p : Nat) : (s.fromOffset p).locVar = s.locVar := rfl
@[simp] theorem fromOffset_curOff (s : State) (p : Nat) : (s.fromOffset p).curOff = s.curOff := rfl
@[simp] theorem fromOffset_curVar (s : State) (p : Nat) : (s.fromOffset p).curVar = s.curVar := rfl
@[simp] theorem fromOffset_expected (s : State) (p : Nat) : (s.fromOffset p).expected = s.expected := rfl
@[simp] theorem fromOffset_drift (s : State) (p : Nat) : (s.fromOffset p).drift = s.drift := rfl
@[simp] theorem fromOffset_count (s : State) (p : Nat) : (s.fromOffset p).count = s.count := rfl
@[simp] theorem fromOffset_frameLen (s : State) (p : Nat) : (s.fromOffset p).frameLen = s.frameLen := rfl
@[simp] theorem fromOffset_audioLen (s : State) (p : Nat) : (s.fromOffset p).audioLen = s.audioLen := rfl
@[simp] theorem fromOffset_wst (s : State) (p : Nat) : (s.fromOffset p).wst = s.wst := rfl
@[simp] theorem fromOffset_cause (s : State) (p : Nat) : (s.fromOffset p).cause = s.cause := rfl
@[simp] theorem fromOffset_busy (s : State) (p : Nat) : (s.fromOffset p).busy = s.busy := rfl
@[simp] theorem fromOffset_locFound (s : State) (p : Nat) : (s.fromOffset p).locFound = s.locFound := rfl
@[simp] theorem fromOffset_seedNHit (s : State) (p : Nat) : (s.fromOffset p).seedNHit = s.seedNHit := rfl
@[simp] theorem fromOffset_seedSHit (s : State) (p : Nat) : (s.fromOffset p).seedSHit = s.seedSHit := rfl
@[simp] theorem fromOffset_emit (s : State) (p : Nat) : (s.fromOffset p).emit = s.emit := rfl
@[simp] theorem fromOffset_curValid (s : State) (p : Nat) : (s.fromOffset p).curValid = s.curValid := rfl
@[simp] theorem fromOffset_aligned (s : State) (p : Nat) : (s.fromOffset p).aligned = s.aligned := rfl
@[simp] theorem fromOffset_outValid (s : State) (p : Nat) : (s.fromOffset p).outValid = s.outValid := rfl
@[simp] theorem fromOffset_frame (s : State) (p : Nat) : (s.fromOffset p).frame = s.frame := rfl
@[simp] theorem fromOffset_audio (s : State) (p : Nat) : (s.fromOffset p).audio = s.audio := rfl
@[simp] theorem fromOffset_pixel (s : State) (p : Nat) : (s.fromOffset p).pixel = s.pixel := rfl
@[simp] theorem fromOffset_port (s : State) (p : Nat) : (s.fromOffset p).port = s.port := rfl
@[simp] theorem fromOffset_readData (s : State) (p : Nat) : (s.fromOffset p).readData = s.readData := rfl
@[simp] theorem fromOffset_draws (s : State) (p : Nat) : (s.fromOffset p).draws = s.draws := rfl

/-! ### hostRead -/

@[simp] theorem hostRead_cfg (s : State) (sp : Space) (i : Nat) : (hostRead s sp i).cfg = s.cfg := rfl
@[simp] theorem hostRead_src (s : State) (sp : Space) (i : Nat) : (hostRead s sp i).src = s.src := rfl
@[simp] theorem hostRead_srcLen (s : State) (sp : Space) (i : Nat) : (hostRead s sp i).srcLen = s.srcLen := rfl
@[simp] theorem hostRead_start (s : State) (sp : Space) (i : Nat) : (hostRead s sp i).start = s.start := rfl
@[simp] theorem hostRead_ls (s : State) (sp : Space) (i : Nat) : (hostRead s sp i).ls = s.ls := rfl
@[simp] theorem hostRead_ll (s : State) (sp : Space) (i : Nat) : (hostRead s sp i).ll = s.ll := rfl
@[simp] theorem hostRead_locOff (s : State) (sp : Space) (i : Nat) : (hostRead s sp i).locOff = s.locOff := rfl
@[simp] theorem hostRead_locVar (s : State) (sp : Space) (i : Nat) : (hostRead s sp i).locVar = s.locVar := rfl
@[simp] theorem hostRead_curOff (s : State) (sp : Space) (i : Nat) : (hostRead s sp i).curOff = s.curOff := rfl
@[simp] theorem hostRead_curVar (s : State) (sp : Space) (i : Nat) : (hostRead s sp i).curVar = s.curVar := rfl
@[simp] theorem hostRead_expected (s : State) (sp : Space) (i : Nat) : (hostRead s sp i).expected = s.expected := rfl
@[simp] theorem hostRead_drift (s : State) (sp : Space) (i : Nat) : (hostRead s sp i).drift = s.drift := rfl
@[simp] theorem hostRead_count (s : State) (sp : Space) (i : Nat) : (hostRead s sp i).count = s.count := rfl
@[simp] theorem hostRead_frameLen (s : State) (sp : Space) (i : Nat) : (hostRead s sp i).frameLen = s.frameLen := rfl
@[simp] theorem hostRead_audioLen (s : State) (sp : Space) (i : Nat) : (hostRead s sp i).audioLen = s.audioLen := rfl
@[simp] theorem hostRead_wst (s : State) (sp : Space) (i : Nat) : (hostRead s sp i).wst = s.wst := rfl
@[simp] theorem hostRead_cause (s : State) (sp : Space) (i : Nat) : (hostRead s sp i).cause = s.cause := rfl
@[simp] theorem hostRead_busy (s : State) (sp : Space) (i : Nat) : (hostRead s sp i).busy = s.busy := rfl
@[simp] theorem hostRead_locFound (s : State) (sp : Space) (i : Nat) : (hostRead s sp i).locFound = s.locFound := rfl
@[simp] theorem hostRead_seedNHit (s : State) (sp : Space) (i : Nat) : (hostRead s sp i).seedNHit = s.seedNHit := rfl
@[simp] theorem hostRead_seedSHit (s : State) (sp : Space) (i : Nat) : (hostRead s sp i).seedSHit = s.seedSHit := rfl
@[simp] theorem hostRead_emit (s : State) (sp : Space) (i : Nat) : (hostRead s sp i).emit = s.emit := rfl
@[simp] theorem hostRead_curValid (s : State) (sp : Space) (i : Nat) : (hostRead s sp i).curValid = s.curValid := rfl
@[simp] theorem hostRead_aligned (s : State) (sp : Space) (i : Nat) : (hostRead s sp i).aligned = s.aligned := rfl
@[simp] theorem hostRead_outValid (s : State) (sp : Space) (i : Nat) : (hostRead s sp i).outValid = s.outValid := rfl
@[simp] theorem hostRead_frame (s : State) (sp : Space) (i : Nat) : (hostRead s sp i).frame = s.frame := rfl
@[simp] theorem hostRead_audio (s : State) (sp : Space) (i : Nat) : (hostRead s sp i).audio = s.audio := rfl
@[simp] theorem hostRead_pixel (s : State) (sp : Space) (i : Nat) : (hostRead s sp i).pixel = s.pixel := rfl
@[simp] theorem hostRead_port (s : State) (sp : Space) (i : Nat) : (hostRead s sp i).port = s.port := rfl
@[simp] theorem hostRead_readData (s : State) (sp : Space) (i : Nat) :
    (hostRead s sp i).readData = if sp = .reg then readRegister s i else readBuffer s sp i := rfl
@[simp] theorem hostRead_draws (s : State) (sp : Space) (i : Nat) : (hostRead s sp i).draws = s.draws + 1 := rfl

/-! ### withFetchWord -/

@[simp] theorem withFetchWord_cfg (s : State) (n w : Nat) : (s.withFetchWord n w).cfg = s.cfg := rfl
@[simp] theorem withFetchWord_src (s : State) (n w : Nat) : (s.withFetchWord n w).src = s.src := rfl
@[simp] theorem withFetchWord_srcLen (s : State) (n w : Nat) : (s.withFetchWord n w).srcLen = s.srcLen := rfl
@[simp] theorem withFetchWord_start (s : State) (n w : Nat) : (s.withFetchWord n w).start = s.start := rfl
@[simp] theorem withFetchWord_ls (s : State) (n w : Nat) : (s.withFetchWord n w).ls = s.ls := rfl
@[simp] theorem withFetchWord_ll (s : State) (n w : Nat) : (s.withFetchWord n w).ll = s.ll := rfl
@[simp] theorem withFetchWord_locOff (s : State) (n w : Nat) : (s.withFetchWord n w).locOff = s.locOff := rfl
@[simp] theorem withFetchWord_locVar (s : State) (n w : Nat) : (s.withFetchWord n w).locVar = s.locVar := rfl
@[simp] theorem withFetchWord_curOff (s : State) (n w : Nat) : (s.withFetchWord n w).curOff = s.curOff := rfl
@[simp] theorem withFetchWord_curVar (s : State) (n w : Nat) : (s.withFetchWord n w).curVar = s.curVar := rfl
@[simp] theorem withFetchWord_expected (s : State) (n w : Nat) : (s.withFetchWord n w).expected = s.expected := rfl
@[simp] theorem withFetchWord_drift (s : State) (n w : Nat) : (s.withFetchWord n w).drift = s.drift := rfl
@[simp] theorem withFetchWord_count (s : State) (n w : Nat) : (s.withFetchWord n w).count = s.count := rfl
@[simp] theorem withFetchWord_frameLen (s : State) (n w : Nat) : (s.withFetchWord n w).frameLen = s.frameLen := rfl
@[simp] theorem withFetchWord_audioLen (s : State) (n w : Nat) : (s.withFetchWord n w).audioLen = s.audioLen := rfl
@[simp] theorem withFetchWord_wst (s : State) (n w : Nat) : (s.withFetchWord n w).wst = s.wst := rfl
@[simp] theorem withFetchWord_cause (s : State) (n w : Nat) : (s.withFetchWord n w).cause = s.cause := rfl
@[simp] theorem withFetchWord_busy (s : State) (n w : Nat) : (s.withFetchWord n w).busy = false := rfl
@[simp] theorem withFetchWord_locFound (s : State) (n w : Nat) : (s.withFetchWord n w).locFound = s.locFound := rfl
@[simp] theorem withFetchWord_seedNHit (s : State) (n w : Nat) : (s.withFetchWord n w).seedNHit = s.seedNHit := rfl
@[simp] theorem withFetchWord_seedSHit (s : State) (n w : Nat) : (s.withFetchWord n w).seedSHit = s.seedSHit := rfl
@[simp] theorem withFetchWord_emit (s : State) (n w : Nat) : (s.withFetchWord n w).emit = s.emit := rfl
@[simp] theorem withFetchWord_curValid (s : State) (n w : Nat) : (s.withFetchWord n w).curValid = s.curValid := rfl
@[simp] theorem withFetchWord_aligned (s : State) (n w : Nat) : (s.withFetchWord n w).aligned = s.aligned := rfl
@[simp] theorem withFetchWord_outValid (s : State) (n w : Nat) : (s.withFetchWord n w).outValid = s.outValid := rfl
@[simp] theorem withFetchWord_frame (s : State) (n w : Nat) : (s.withFetchWord n w).frame = s.frame := rfl
@[simp] theorem withFetchWord_audio (s : State) (n w : Nat) : (s.withFetchWord n w).audio = s.audio := rfl
@[simp] theorem withFetchWord_pixel (s : State) (n w : Nat) : (s.withFetchWord n w).pixel = s.pixel := rfl
@[simp] theorem withFetchWord_port (s : State) (n w : Nat) :
    (s.withFetchWord n w).port = .write .reg 0 (BitVec.ofNat 32 (w % 2 ^ n % 256)) :: s.port := rfl
@[simp] theorem withFetchWord_readData (s : State) (n w : Nat) : (s.withFetchWord n w).readData = s.readData := rfl
@[simp] theorem withFetchWord_draws (s : State) (n w : Nat) : (s.withFetchWord n w).draws = s.draws := rfl

/-! ### resetBlock -/

@[simp] theorem resetBlock_cfg (s : State) : (resetBlock s).cfg = s.cfg := rfl
@[simp] theorem resetBlock_src (s : State) : (resetBlock s).src = s.src := rfl
@[simp] theorem resetBlock_srcLen (s : State) : (resetBlock s).srcLen = State.reset.srcLen := rfl
@[simp] theorem resetBlock_start (s : State) : (resetBlock s).start = State.reset.start := rfl
@[simp] theorem resetBlock_ls (s : State) : (resetBlock s).ls = State.reset.ls := rfl
@[simp] theorem resetBlock_ll (s : State) : (resetBlock s).ll = State.reset.ll := rfl
@[simp] theorem resetBlock_locOff (s : State) : (resetBlock s).locOff = State.reset.locOff := rfl
@[simp] theorem resetBlock_locVar (s : State) : (resetBlock s).locVar = State.reset.locVar := rfl
@[simp] theorem resetBlock_curOff (s : State) : (resetBlock s).curOff = State.reset.curOff := rfl
@[simp] theorem resetBlock_curVar (s : State) : (resetBlock s).curVar = State.reset.curVar := rfl
@[simp] theorem resetBlock_expected (s : State) : (resetBlock s).expected = State.reset.expected := rfl
@[simp] theorem resetBlock_drift (s : State) : (resetBlock s).drift = State.reset.drift := rfl
@[simp] theorem resetBlock_count (s : State) : (resetBlock s).count = State.reset.count := rfl
@[simp] theorem resetBlock_frameLen (s : State) : (resetBlock s).frameLen = State.reset.frameLen := rfl
@[simp] theorem resetBlock_audioLen (s : State) : (resetBlock s).audioLen = State.reset.audioLen := rfl
@[simp] theorem resetBlock_wst (s : State) : (resetBlock s).wst = State.reset.wst := rfl
@[simp] theorem resetBlock_cause (s : State) : (resetBlock s).cause = State.reset.cause := rfl
@[simp] theorem resetBlock_busy (s : State) : (resetBlock s).busy = State.reset.busy := rfl
@[simp] theorem resetBlock_locFound (s : State) : (resetBlock s).locFound = State.reset.locFound := rfl
@[simp] theorem resetBlock_seedNHit (s : State) : (resetBlock s).seedNHit = State.reset.seedNHit := rfl
@[simp] theorem resetBlock_seedSHit (s : State) : (resetBlock s).seedSHit = State.reset.seedSHit := rfl
@[simp] theorem resetBlock_emit (s : State) : (resetBlock s).emit = State.reset.emit := rfl
@[simp] theorem resetBlock_curValid (s : State) : (resetBlock s).curValid = State.reset.curValid := rfl
@[simp] theorem resetBlock_aligned (s : State) : (resetBlock s).aligned = State.reset.aligned := rfl
@[simp] theorem resetBlock_outValid (s : State) : (resetBlock s).outValid = State.reset.outValid := rfl
@[simp] theorem resetBlock_frame (s : State) : (resetBlock s).frame = State.reset.frame := rfl
@[simp] theorem resetBlock_audio (s : State) : (resetBlock s).audio = State.reset.audio := rfl
@[simp] theorem resetBlock_pixel (s : State) : (resetBlock s).pixel = State.reset.pixel := rfl
@[simp] theorem resetBlock_port (s : State) : (resetBlock s).port = s.port := rfl
@[simp] theorem resetBlock_readData (s : State) : (resetBlock s).readData = s.readData := rfl
@[simp] theorem resetBlock_draws (s : State) : (resetBlock s).draws = s.draws := rfl

end Sys2Proof.Machine
end

