-- ==== Sys2Proof/Laws/Locator.lean ====
section
/-! SUPPORT. What the locator's scan answers, in terms of the test at one offset. -/

namespace Sys2Proof.Machine

/-! ### The cells the scan has passed do not matter -/

theorem memRead_fromOffset (s : State) {p a : Nat} (n : Nat) (h : p ≤ a) :
    memRead (s.fromOffset p) a n = memRead s a n := by
  simp only [memRead, State.fromOffset, Memory.block_skip _ _ n h]

theorem seedHit_fromOffset (s : State) {p a : Nat} (h : p ≤ a) :
    seedHit (s.fromOffset p) a = seedHit s a := by
  simp only [seedHit, probe, memRead_fromOffset s _ h, fromOffset_cfg]

theorem matchesAt_fromOffset (s : State) (v : Variant) {p a : Nat} (h : p ≤ a) :
    matchesAt (s.fromOffset p) v a = matchesAt s v a := by
  simp only [matchesAt, fromOffset_cfg, memRead_fromOffset s _ h]

theorem markerAt_fromOffset (s : State) {p a : Nat} (h : p ≤ a) :
    markerAt (s.fromOffset p) a = markerAt s a := by
  simp only [markerAt, seedHit_fromOffset s h, classify, matchesAt_fromOffset s _ h, fromOffset_cfg]

/-! ### The test at one offset -/

/-- A probe window that does not fit hits no seed (R101). -/
theorem seedHit_fits {s : State} {p : Nat} (h : seedHit s p = true) : p + seedLen ≤ s.srcLen.toNat := by
  simp only [seedHit, probe] at h
  split at h
  · simp at h
  · exact (memRead_eq_some.1 ‹_›).1

theorem markerAt_eq_some {s : State} {p : Nat} {v : Variant} :
    markerAt s p = some v ↔ seedHit s p = true ∧ classify s p = some v := by
  simp only [markerAt]
  split <;> simp_all

theorem classify_mem {s : State} {p : Nat} {v : Variant} (h : classify s p = some v) :
    v ∈ s.cfg.data.priority ∧ matchesAt s v p = true :=
  ⟨List.mem_of_find?_eq_some h, List.find?_some (p := fun v => matchesAt s v p) h⟩

theorem markerAt_lt {s : State} {p : Nat} {v : Variant} (h : markerAt s p = some v) :
    p < s.srcLen.toNat := by
  have := seedHit_fits (markerAt_eq_some.1 h).1
  simp only [seedLen] at this
  omega

/-! ### The scan -/

/-- The scan answers the first offset of its range at which a marker is found. -/
theorem scan_eq_some {limit n p : Nat} {s : State} {q : Nat} {v : Variant} :
    scan limit n p s = some (q, v) ↔
      p ≤ q ∧ q < p + n ∧ q < limit ∧ markerAt s q = some v ∧ ∀ r, p ≤ r → r < q → markerAt s r = none := by
  induction n generalizing p s with
  | zero => simp only [scan, reduceCtorEq, false_iff]; omega
  | succ n ih =>
    simp only [scan]
    by_cases hp : p < limit
    · rw [if_pos hp]
      cases hm : markerAt s p with
      | some u =>
        simp only [Option.some.injEq, Prod.mk.injEq]
        constructor
        · rintro ⟨rfl, rfl⟩
          exact ⟨Nat.le_refl _, by omega, hp, hm, fun r _ _ => by omega⟩
        · rintro ⟨h₁, -, -, h₄, h₅⟩
          have hq : q = p := by
            by_contra hne
            have := h₅ p (Nat.le_refl _) (by omega)
            rw [hm] at this
            cases this
          subst hq
          rw [hm] at h₄
          exact ⟨rfl, Option.some.inj h₄⟩
      | none =>
        simp only
        rw [ih]
        constructor
        · rintro ⟨h₁, h₂, h₃, h₄, h₅⟩
          rw [markerAt_fromOffset s h₁] at h₄
          refine ⟨by omega, by omega, h₃, h₄, fun r hr hrq => ?_⟩
          rcases Nat.eq_or_lt_of_le hr with rfl | hr
          · exact hm
          · rw [← markerAt_fromOffset s hr]
            exact h₅ r hr hrq
        · rintro ⟨h₁, h₂, h₃, h₄, h₅⟩
          have hpq : p + 1 ≤ q := by
            rcases Nat.eq_or_lt_of_le h₁ with rfl | h
            · rw [hm] at h₄; cases h₄
            · exact h
          rw [markerAt_fromOffset s hpq]
          refine ⟨hpq, by omega, h₃, h₄, fun r hr hrq => ?_⟩
          rw [markerAt_fromOffset s hr]
          exact h₅ r (by omega) hrq
    · rw [if_neg hp]
      simp only [reduceCtorEq, false_iff]
      omega

/-- What `locate` answers is a marker at an offset of its window, the first there. -/
theorem locate_some_spec {s : State} {a l q : Nat} {v : Variant} (h : locate s a l = some (q, v)) :
    a ≤ q ∧ q < l ∧ markerAt s q = some v ∧ ∀ r, a ≤ r → r < q → markerAt s r = none := by
  obtain ⟨h₁, -, h₃, h₄, h₅⟩ := scan_eq_some.1 h
  exact ⟨h₁, h₃, h₄, h₅⟩

end Sys2Proof.Machine
end

