-- ==== Sys2Proof/Laws/Matcher.lean ====
section
/-! SUPPORT. The mask byte by byte, and what a well-formed configuration says of seeds and markers. -/

namespace Sys2Proof.Machine

theorem maskPos_eq_true {c : CfgData} {v : Variant} {len i : Nat} :
    maskPos c v len i = true ↔
      i < len ∧ ((v.mode = .colorXP ∧ i ∈ c.xpMask v.orient)
        ∨ (v.mode ≠ .colorXP ∧ v.orient.audStart ≤ i ∧ (i - v.orient.audStart) % 10 = 0)) := by
  unfold maskPos
  cases v.mode <;> simp [and_assoc, and_left_comm]

@[simp] theorem length_mask (c : CfgData) (v : Variant) (x : List Byte) : (mask c v x).length = x.length := by
  simp [mask]

theorem getElem?_mask (c : CfgData) (v : Variant) (x : List Byte) (i : Nat) :
    (mask c v x)[i]? = x[i]?.map fun b => if maskPos c v x.length i = true then 0 else b := by
  simp [mask]

theorem length_seeds (c : Cfg) : c.data.seedN.length = 8 ∧ c.data.seedS.length = 8 := by
  have h := c.ok
  simp only [CfgData.wf, CfgData.seedsWf, Bool.and_eq_true, beq_iff_eq] at h
  exact h.1.1.1

theorem markerLen_bounds (c : Cfg) (v : Variant) :
    8 ≤ c.data.markerLen v ∧ c.data.markerLen v ≤ v.stride := by
  have h := c.ok
  simp only [CfgData.wf, CfgData.markersWf, Bool.and_eq_true, List.all_eq_true, decide_eq_true_eq] at h
  exact h.1.1.2 v (by cases v <;> decide)

end Sys2Proof.Machine
end

