-- ==== Sys2Proof/Laws/PerInstr.lean ====
section
/-! SUPPORT. Statements made per command: the fields of each command's byte. -/

namespace Sys2Proof.Laws.Fields

/-- A command's byte has bit 3 clear, an `op` of 0 to 8, and a `var` that is a legal variant code, 0 where the command
carries no variant (R80, R81). -/
def Statement (i : Instr) : Prop :=
  zField (encode i) = false ∧ (opField (encode i)).toNat ≤ 8 ∧ (varField (encode i)).toNat ≤ 5
    ∧ ((∃ v, i = .matchV v ∨ i = .decodeV v) ∨ varField (encode i) = 0)

theorem nop : Statement .nop := ⟨by decide, by decide, by decide, .inr (by decide)⟩

theorem init : Statement .init := ⟨by decide, by decide, by decide, .inr (by decide)⟩

theorem probe : Statement .probe := ⟨by decide, by decide, by decide, .inr (by decide)⟩

theorem matchV (v : Variant) : Statement (.matchV v) :=
  ⟨by cases v <;> decide, by cases v <;> decide, by cases v <;> decide, .inl ⟨v, .inl rfl⟩⟩

theorem locate : Statement .locate := ⟨by decide, by decide, by decide, .inr (by decide)⟩

theorem fetch : Statement .fetch := ⟨by decide, by decide, by decide, .inr (by decide)⟩

theorem decodeV (v : Variant) : Statement (.decodeV v) :=
  ⟨by cases v <;> decide, by cases v <;> decide, by cases v <;> decide, .inl ⟨v, .inr rfl⟩⟩

theorem wstep : Statement .wstep := ⟨by decide, by decide, by decide, .inr (by decide)⟩

theorem next : Statement .next := ⟨by decide, by decide, by decide, .inr (by decide)⟩

end Sys2Proof.Laws.Fields
end

