-- ==== Sys2Proof/Laws/Safety.lean ====
section
/-! SUPPORT. The observer's record of a walk: what it becomes after a step, and why the sum of its strides fits. -/

namespace Sys2Proof.Machine

@[simp] theorem strideSum_nil : strideSum [] = 0 := rfl

@[simp] theorem strideSum_cons (f : Nat × Variant) (fs : List (Nat × Variant)) :
    strideSum (f :: fs) = f.2.stride + strideSum fs := rfl

theorem Walk.after_of_not_valid {s t : State} (h : t.curValid = false) (w : Walk) :
    w.after s t = ⟨t.start.toNat, []⟩ := by
  simp [Walk.after, h]

theorem Walk.after_of_same_count {s t : State} (h : t.curValid = true) (hc : t.count = s.count) (w : Walk) :
    w.after s t = w := by
  simp [Walk.after, h, hc]

theorem Walk.after_of_located {s t : State} (h : t.curValid = true) (hc : t.count ≠ s.count) (w : Walk) :
    w.after s t = ⟨w.start, (t.curOff.toNat, t.curVar) :: w.frames⟩ := by
  simp [Walk.after, h, hc]

/-- Frames that do not overlap and do not begin before `a` leave room: what they span, from `a` to the end of the
newest, is at least the sum of their strides. -/
theorem add_strideSum_le {a : Nat} {f : Nat × Variant} {fs : List (Nat × Variant)}
    (apart : (f :: fs).Pairwise fun newer older => older.1 + older.2.stride ≤ newer.1)
    (start : ∀ g ∈ f :: fs, a ≤ g.1) : a + strideSum (f :: fs) ≤ f.1 + f.2.stride := by
  induction fs generalizing f with
  | nil => simpa using start f (by simp)
  | cons g gs ih =>
    obtain ⟨below, apart⟩ := List.pairwise_cons.1 apart
    have := ih apart fun h hm => start h (List.mem_cons_of_mem _ hm)
    have := below g (by simp)
    simp only [strideSum_cons] at *
    omega

end Sys2Proof.Machine
end

