-- ==== Sys2Proof/Laws/Walker.lean ====
section
/-! SUPPORT. What one transition of the walker, one FETCH, one DECODE and one NEXT can do, said once. -/

namespace Sys2Proof.Machine

/-- One transition of the walker: it accepts a whole frame, misses a hop, raises the cause of its state, or (in a
terminal state) does no more than clear `EMIT`. -/
theorem walkStep_cases (s : State) :
    (∃ p v d, walkStep s = accept p v d s ∧ markerAt s p = some v ∧ p + v.stride ≤ s.srcLen.toNat
      ∧ ((s.wst = .seeking ∧ s.start.toNat ≤ p ∧ d = 0)
        ∨ (s.wst = .locked ∧ p = s.expected.toNat ∧ d = 0)
        ∨ (s.wst = .resyncing ∧ s.expected.toNat ≤ p ∧ d = p - s.expected.toNat)))
    ∨ (walkStep s = hopMissed s ∧ s.wst = .locked)
    ∨ (walkStep s = raise .notFound s ∧ s.wst = .seeking)
    ∨ (walkStep s = raise .exhausted s ∧ (s.wst = .locked ∨ s.wst = .resyncing))
    ∨ (walkStep s = clearEmit s ∧ s.wst = .exhausted)
    ∨ (walkStep s = s ∧ s.wst = .failed) := by
  unfold walkStep
  cases hw : s.wst with
  | seeking =>
    simp only [stepSeeking]
    split
    · rename_i p v hl
      obtain ⟨h₁, -, h₃, -⟩ := locate_some_spec hl
      split
      · rename_i hf
        simp only [wholeFrame, decide_eq_true_eq] at hf
        exact .inl ⟨p, v, 0, rfl, h₃, hf, .inl ⟨trivial, h₁, rfl⟩⟩
      · simp
    · simp
  | locked =>
    simp only [stepLocked]
    split
    · rename_i p v hl
      obtain ⟨h₁, h₂, h₃, -⟩ := locate_some_spec hl
      split
      · rename_i hf
        simp only [wholeFrame, decide_eq_true_eq] at hf
        refine .inl ⟨p, v, 0, rfl, h₃, hf, .inr (.inl ⟨trivial, ?_, rfl⟩)⟩
        simp only [expectedOperand] at h₁ h₂
        omega
      · simp
    · simp
  | resyncing =>
    simp only [stepResyncing]
    split
    · rename_i q v hl
      obtain ⟨h₁, -, h₃, -⟩ := locate_some_spec hl
      split
      · rename_i hf
        simp only [wholeFrame, decide_eq_true_eq] at hf
        exact .inl ⟨q, v, _, rfl, h₃, hf, .inr (.inr ⟨trivial, h₁, rfl⟩)⟩
      · simp
    · simp
  | exhausted => simp
  | failed => simp

/-- After two transitions NEXT's repeat has ended, so a longer repeat is no different. -/
theorem walkUntil_two (n : Nat) (s : State) : walkUntil (n + 2) s = walkUntil 2 s := by
  simp only [walkUntil]
  split
  · rfl
  · rename_i h
    have hd : walkDone (walkStep (walkStep s)) = true := by
      have hr : (walkStep s).wst = .resyncing := by
        rcases walkStep_cases s with ⟨p, v, d, h₁, -⟩ | ⟨h₁, -⟩ | ⟨h₁, -⟩ | ⟨h₁, -⟩ | ⟨h₁, h₂⟩ | ⟨h₁, h₂⟩ <;>
          simp_all [walkDone, Cause.endState]
      rcases walkStep_cases (walkStep s) with ⟨p, v, d, h₁, -⟩ | ⟨-, h₂⟩ | ⟨-, h₂⟩ | ⟨h₁, -⟩ | ⟨-, h₂⟩ | ⟨-, h₂⟩
      · simp [h₁, walkDone]
      · rw [hr] at h₂; cases h₂
      · rw [hr] at h₂; cases h₂
      · simp [h₁, walkDone, Cause.endState]
      · rw [hr] at h₂; cases h₂
      · rw [hr] at h₂; cases h₂
    cases n with
    | zero => rfl
    | succ n => simp only [walkUntil, hd, if_true]

/-- FETCH delivers the frame at `CUR_OFF`, or raises the cause its check names. -/
theorem fetchStep_cases (s : State) :
    (∃ w, memRead s s.curOff.toNat s.curVar.stride = some w ∧ s.curValid = true ∧ fetchStep s = s.setFrame w)
    ∨ (s.curValid = true ∧ s.srcLen.toNat < s.curOff.toNat + s.curVar.stride
        ∧ fetchStep s = raise .lengthPrecondition s)
    ∨ (s.curValid = false ∧ fetchStep s = raise .illegalCommand s) := by
  unfold fetchStep
  cases hc : s.curValid with
  | true =>
    cases hm : memRead s s.curOff.toNat s.curVar.stride with
    | some w => simp
    | none => simp [memRead_eq_none.1 hm]
  | false => simp

/-- DECODE delivers the decoded frame, or raises on the wrong length. -/
theorem decodeStep_cases (v : Variant) (s : State) :
    (s.frameLen.toNat = v.stride ∧
      decodeStep v s = s.setDecoded (audioOf (canon v (frameOperand s))) (pixelsOf s.cfg.data v (frameOperand s)))
    ∨ (s.frameLen.toNat ≠ v.stride ∧ decodeStep v s = raise .lengthPrecondition s) := by
  by_cases h : s.frameLen.toNat = v.stride
  · refine .inl ⟨h, ?_⟩
    simp only [decodeStep, if_pos h, decodeFrame]
  · exact .inr ⟨h, by simp only [decodeStep, if_neg h]⟩

/-- NEXT's repeat is one transition, or two of which the first is a missed hop. -/
theorem walkUntil_cases (s : State) :
    walkUntil 2 s = walkStep s
    ∨ (s.wst = .locked ∧ walkStep s = hopMissed s ∧ walkUntil 2 s = walkStep (walkStep s)) := by
  simp only [walkUntil]
  split
  · exact .inl rfl
  · rename_i h
    rcases walkStep_cases s with ⟨p, v, d, h₁, -⟩ | ⟨h₁, h₂⟩ | ⟨h₁, -⟩ | ⟨h₁, -⟩ | ⟨h₁, h₂⟩ | ⟨h₁, h₂⟩
    · simp [h₁, walkDone] at h
    · refine .inr ⟨h₂, h₁, ?_⟩
      split <;> rfl
    · simp [h₁, walkDone, Cause.endState] at h
    · simp [h₁, walkDone, Cause.endState] at h
    · simp [h₁, h₂, walkDone] at h
    · simp [h₁, h₂, walkDone] at h

end Sys2Proof.Machine
end

