-- ==== Sys2Proof/Laws/Step.lean ====
section
/-! SUPPORT. What one step can do, said once: wait, run a command, take an illegal byte, or take another event. -/

namespace Sys2Proof.Machine

@[simp] theorem exec_nop (s : State) : exec .nop s = .next s := rfl

@[simp] theorem exec_init (s : State) : exec .init s = .next (startPass s) := rfl

@[simp] theorem exec_probe (s : State) : exec .probe s = .next (unlessFailed s probeStep) := rfl

@[simp] theorem exec_matchV (v : Variant) (s : State) :
    exec (.matchV v) s = .next (unlessFailed s (matchStep v)) := rfl

@[simp] theorem exec_locate (s : State) : exec .locate s = .next (unlessFailed s locateStep) := rfl

@[simp] theorem exec_fetch (s : State) : exec .fetch s = .next (unlessFailed s fetchStep) := rfl

@[simp] theorem exec_decodeV (v : Variant) (s : State) :
    exec (.decodeV v) s = .next (unlessFailed s (decodeStep v)) := rfl

@[simp] theorem exec_wstep (s : State) : exec .wstep s = .next (unlessFailed s walkStep) := rfl

@[simp] theorem exec_next (s : State) : exec .next s = .next (unlessFailed s nextStep) := rfl

theorem unlessFailed_of_ne {s : State} (h : s.wst ≠ .failed) (act : State → State) :
    unlessFailed s act = act s := if_neg h

theorem unlessFailed_of_eq {s : State} (h : s.wst = .failed) (act : State → State) :
    unlessFailed s act = s := if_pos h

/-- A block that is not busy takes the first event at its port. -/
theorem step_take {s : State} {e : PortEvent} {rest : List PortEvent} (hb : s.busy = false)
    (hp : s.port = e :: rest) : step s = takeEvent e (s.withPort rest) := by
  simp [step, hp, hb]

theorem takeEvent_command (s : State) (data : Word) :
    takeEvent (.write .reg 0x00 data) s = runCommand (data.truncate 8) s := rfl

theorem takeEvent_write {index : BitVec 16} (h : index ≠ 0) (s : State) (data : Word) :
    takeEvent (.write .reg index data) s = .next (writeRegister s index.toNat data) := by
  simp only [takeEvent, PortEvent.commandByte?, if_neg h, portStep, hostWrite]

theorem takeEvent_read (s : State) (sp : Space) (index : BitVec 16) :
    takeEvent (.read sp index) s = .next (hostRead s sp index.toNat) := rfl

/-- Everything a step that answers a next state can have done. -/
theorem step_cases {s t : State} (h : step s = .next t) :
    (s.port = [] ∧ t = s)
    ∨ ∃ e rest, s.port = e :: rest ∧ (s.busy = false ∨ e = .reset)
      ∧ ((∃ b i, e.commandByte? = some b ∧ decode b = .ok i ∧ exec i (s.withPort rest) = .next t)
        ∨ (∃ b r, e.commandByte? = some b ∧ decode b = .error r
            ∧ t = unlessFailed (s.withPort rest) (raise .illegalCommand))
        ∨ (e.commandByte? = none ∧ t = portStep (s.withPort rest) e)) := by
  unfold step at h
  cases hp : s.port with
  | nil =>
    rw [hp] at h
    exact .inl ⟨rfl, (Host.Outcome.next.inj h).symm⟩
  | cons e rest =>
    rw [hp] at h
    simp only at h
    split at h
    · cases h
    · rename_i hb
      refine .inr ⟨e, rest, rfl, ?_, ?_⟩
      · cases hbusy : s.busy with
        | false => exact .inl rfl
        | true => exact .inr (by by_contra he; exact hb ⟨hbusy, he⟩)
      · simp only [takeEvent] at h
        split at h
        · rename_i b hc
          simp only [runCommand] at h
          split at h
          · exact .inl ⟨b, _, hc, ‹_›, h⟩
          · exact .inr (.inl ⟨b, _, hc, ‹_›, (Host.Outcome.next.inj h).symm⟩)
        · rename_i hc
          exact .inr (.inr ⟨hc, (Host.Outcome.next.inj h).symm⟩)

/-- What a port event that starts no command does. -/
theorem portStep_cases (s : State) (e : PortEvent) :
    (∃ x, portStep s e = { s with srcLen := x } ∧ e = .write .reg 0x03 x)
    ∨ (∃ x, portStep s e = { s with start := x })
    ∨ (∃ x, portStep s e = { s with ls := x })
    ∨ (∃ x, portStep s e = { s with ll := x })
    ∨ (∃ x, portStep s e = { s with frameLen := x })
    ∨ (∃ i b, portStep s e = { s with frame := s.frame.write i b } ∧ i < frameBytesMax)
    ∨ (∃ sp i, portStep s e = hostRead s sp i)
    ∨ (portStep s e = resetBlock s ∧ e = .reset)
    ∨ portStep s e = s := by
  cases e with
  | reset => simp [portStep]
  | read sp i => exact .inr (.inr (.inr (.inr (.inr (.inr (.inl ⟨sp, i.toNat, rfl⟩))))))
  | write sp i x =>
    cases sp with
    | reg =>
      simp only [portStep, hostWrite, writeRegister]
      split
      · rename_i h
        refine .inl ⟨x, rfl, ?_⟩
        rw [show i = 3 from BitVec.eq_of_toNat_eq h]
      · exact .inr (.inl ⟨x, rfl⟩)
      · exact .inr (.inr (.inl ⟨x, rfl⟩))
      · exact .inr (.inr (.inr (.inl ⟨x, rfl⟩)))
      · exact .inr (.inr (.inr (.inr (.inl ⟨x, rfl⟩))))
      · simp
    | frame =>
      simp only [portStep, hostWrite]
      split
      · exact .inr (.inr (.inr (.inr (.inr (.inl ⟨_, _, rfl, ‹_›⟩)))))
      · simp
    | audio => simp [portStep, hostWrite]
    | pixel => simp [portStep, hostWrite]

end Sys2Proof.Machine
end

