-- ==== Sys2Proof/Machine/Fixture.lean ====
section
/-! DEFINITION. Values the spec supplies for tests only, no part of the machine: the reference pixel map `PIXMAP_REF`
(R170) and the test configuration `TCFG` (95_test_vectors.md section 0.1). -/

namespace Sys2Proof.Machine

/-- `PIXMAP_REF(o)` (R170). -/
def pixmapRef (o : Nat) : PixSrc :=
  let r := o / 432
  let x := o % 432
  let c := x / 3
  let ch := x % 3
  let s := c / 12
  let y := c % 12
  let g := y / 4
  let j := y % 4
  let index := 240 * r + 10 * s + 1 + 3 * g
  let q := 3 * j + ch
  let t := q / 2
  let k := t / 2
  { src := if t % 2 = 0 then index + k else index + 120 + k
    sel := if q % 2 = 0 then .hi else .lo }

/-- `PIXMAP_REF` as the table a configuration holds. -/
def pixmapRefTable : List PixSrc := (List.range pixBytes).map pixmapRef

theorem pixmapRef_wf (o : Nat) (h : o < pixBytes) : (pixmapRef o).wf = true := by
  simp only [pixBytes] at h
  have hr : o / 432 ≤ 79 := by omega
  have hs : o % 432 / 3 / 12 ≤ 11 := by omega
  have hg : o % 432 / 3 % 12 / 4 ≤ 2 := by omega
  have hk : (3 * (o % 432 / 3 % 12 % 4) + o % 432 % 3) / 2 / 2 ≤ 2 := by omega
  rw [PixSrc.wf_iff]
  simp only [pixmapRef, strideMin, audPeriod]
  generalize o / 432 = r at *
  generalize o % 432 / 3 / 12 = s at *
  generalize o % 432 / 3 % 12 / 4 = g at *
  generalize (3 * (o % 432 / 3 % 12 % 4) + o % 432 % 3) / 2 = t at *
  obtain ⟨u, hu⟩ : ∃ u, u = 1 + 3 * g + t / 2 := ⟨_, rfl⟩
  have hu9 : 1 ≤ u ∧ u ≤ 9 := by omega
  clear h hg hk
  split
  · rw [show 240 * r + 10 * s + 1 + 3 * g + t / 2 = 10 * (24 * r + s) + u by omega]
    omega
  · rw [show 240 * r + 10 * s + 1 + 3 * g + 120 + t / 2 = 10 * (24 * r + s + 12) + u by omega]
    omega

theorem pixmapRefTable_wf : pixmapWf pixmapRefTable = true := by
  simp only [pixmapWf, pixmapRefTable, List.length_map, List.length_range, beq_self_eq_true, Bool.true_and,
    List.all_map, List.all_eq_true, List.mem_range]
  exact pixmapRef_wf

/-- Byte `i` of a 332-byte test marker: the normal seed, then an arithmetic sequence. -/
def testMarker (base step : Nat) : List Byte :=
  (List.range 332).map fun i => if i < 8 then BitVec.ofNat 8 (0xA0 + i) else BitVec.ofNat 8 (base + step * i)

/-- The test configuration's seed. -/
def testSeed : List Byte := (List.range 8).map fun i => BitVec.ofNat 8 (0xA0 + i)

/-- The data of `TCFG` (95_test_vectors.md section 0.1). -/
def tcfgData : CfgData where
  priority := [.colorN, .colorS, .xpN, .xpS]
  seedN := testSeed
  seedS := pairSwap testSeed
  marker :=
    { monoN := testSeed
      monoS := pairSwap testSeed
      colorN := testMarker 0x10 3
      colorS := pairSwap (testMarker 0x10 3)
      xpN := testMarker 0x20 5
      xpS := pairSwap (testMarker 0x20 5) }
  xpMaskN := (List.range 33).map (fun j => 8 + 10 * j) ++ [330, 331]
  xpMaskS := (List.range 33).map (fun j => 9 + 10 * j) ++ [330, 331]
  pixmap := { monochrome := pixmapRefTable, color := pixmapRefTable, colorXP := pixmapRefTable }

theorem tcfgData_wf : tcfgData.wf = true := by
  have h : (tcfgData.seedsWf && tcfgData.markersWf && tcfgData.priorityWf) = true := by decide +kernel
  have h' : tcfgData.pixmapsWf = true := by
    simp only [CfgData.pixmapsWf, tcfgData, pixmapRefTable_wf, Bool.and_self]
  simp only [CfgData.wf, h, h', Bool.and_self]

/-- `TCFG` (95_test_vectors.md section 0.1). -/
def tcfg : Cfg := ⟨tcfgData, tcfgData_wf⟩

/-- The data of `TCFG-MIN`: the minimal build's priority list (95_test_vectors.md section 0.1). -/
def tcfgMinData : CfgData := { tcfgData with priority := [.monoN, .monoS] }

theorem tcfgMinData_wf : tcfgMinData.wf = true := by
  have h : (tcfgMinData.seedsWf && tcfgMinData.markersWf && tcfgMinData.priorityWf) = true := by decide +kernel
  have h' : tcfgMinData.pixmapsWf = true := by
    simp only [CfgData.pixmapsWf, tcfgMinData, tcfgData, pixmapRefTable_wf, Bool.and_self]
  simp only [CfgData.wf, h, h', Bool.and_self]

/-- `TCFG-MIN` (95_test_vectors.md section 0.1). -/
def tcfgMin : Cfg := ⟨tcfgMinData, tcfgMinData_wf⟩

end Sys2Proof.Machine
end

