-- ==== Sys2Proof/Machine/Script.lean ====
section
/-! DEFINITION. The host script notation as the port events each line stands for (R86), and its pseudo-instructions
(R87). -/

namespace Sys2Proof.Machine

/-- `WR <reg>, <value>` with the register's index (R86). -/
def wr (index : BitVec 16) (value : Word) : PortEvent := .write .reg index value

/-- `RD <reg>` with the register's index (R86). -/
def rd (index : BitVec 16) : PortEvent := .read .reg index

/-- `WRB FRAME[<i>], <byte>` (R86). -/
def wrbFrame (i : BitVec 16) (b : Byte) : PortEvent := .write .frame i (b.zeroExtend 32)

/-- `RDB` of a buffer byte (R86). -/
def rdb (sp : Space) (i : BitVec 16) : PortEvent := .read sp i

/-- A command line: the write of its byte to `CMD` (R86). -/
def cmd (i : Instr) : PortEvent := .write .reg 0x00 ((encode i).zeroExtend 32)

/-- `OPEN <len>, <start>` (R87). -/
def scriptOpen (len start : Word) : List PortEvent := [wr 0x03 len, wr 0x04 start, cmd .init]

/-- `PROBE <a>` (R87). -/
def scriptProbe (a : Word) : List PortEvent := [wr 0x05 a, cmd .probe]

/-- `MATCH <variant>, <a>` (R87). -/
def scriptMatch (v : Variant) (a : Word) : List PortEvent := [wr 0x05 a, cmd (.matchV v)]

/-- `LOCATE <a>, <b>` (R87). -/
def scriptLocate (a b : Word) : List PortEvent := [wr 0x05 a, wr 0x06 b, cmd .locate]

/-- `LOADFRAME <bytes>` (R87). -/
def scriptLoadFrame (bs : List Byte) : List PortEvent :=
  bs.mapIdx (fun i b => wrbFrame (BitVec.ofNat 16 i) b) ++ [wr 0x0E (BitVec.ofNat 32 bs.length)]

/-- `RUNALL` cut off after `n` NEXTs: once the walk has ended, a NEXT more delivers nothing (R87, R200). -/
def scriptRunAll (n : Nat) : List PortEvent := List.replicate n (cmd .next)

end Sys2Proof.Machine
end

