-- ==== Sys2Proof/Tests/Slice0.lean ====
section
/-! SUPPORT. Tests against the spec's own vectors (95_test_vectors.md) and bit patterns (R80, R81), and for each obligation
with hypotheses a witness that meets them. -/

namespace Sys2Proof.Tests

-- One theorem at a time: each kernel evaluation in a thread of its own would ask for a stack of its own.
set_option Elab.async false

open Sys2Proof.Machine

/-! ### The states the tests run on -/

/-- The state after a command. -/
def after (i : Instr) (s : State) : State :=
  match exec i s with
  | .next t => t
  | .fault _ | .refused _ => s

/-- The state after one step. -/
def afterStep (s : State) : State :=
  match step s with
  | .next t => t
  | .fault _ | .refused _ => s

/-- After reset, with a configuration and a source. -/
def source (c : Cfg) (bytes : Memory) (len : Word) : State :=
  { State.reset with cfg := c, src := bytes, srcLen := len }

/-- After reset, with one event at the port. -/
def atPort (e : PortEvent) : State := { State.reset with port := [e] }

/-- A source whose first bytes are given and no others are read. -/
def bytesOf (bs : List Byte) : Memory := Memory.cellsFrom 0 bs

/-- The source of M1 to M3. -/
def probeSource : State := source tcfg (bytesOf ([0x00] ++ testSeed ++ [0x00])) 10

/-- `TCFG` with the Color markers cut to their first 24 bytes, as `TCFG-302` cuts them to 302. -/
def shortData : CfgData :=
  { tcfgData with
    marker :=
      { tcfgData.marker with
        colorN := (testMarker 0x10 3).take 24, colorS := pairSwap ((testMarker 0x10 3).take 24) } }

theorem shortData_wf : shortData.wf = true := by
  have h : (shortData.seedsWf && shortData.markersWf && shortData.priorityWf) = true := by decide +kernel
  have h' : shortData.pixmapsWf = true := by
    simp only [CfgData.pixmapsWf, shortData, tcfgData, pixmapRefTable_wf, Bool.and_self]
  simp only [CfgData.wf, h, h', Bool.and_self]

/-- The checked form of `shortData`. -/
def short : Cfg := ⟨shortData, shortData_wf⟩

/-- M5's source, for the cut marker: the ColorN marker with other bytes in the payload slots 8 and 18. -/
def colorSource : State :=
  source short
    (bytesOf [0xA0, 0xA1, 0xA2, 0xA3, 0xA4, 0xA5, 0xA6, 0xA7, 0x5A, 0x2B, 0x2E, 0x31, 0x34, 0x37, 0x3A, 0x3D,
      0x40, 0x43, 0xFF, 0x49, 0x4C, 0x4F, 0x52, 0x55]) 24

/-- P4's source, for the cut marker: five zeros, the ColorS marker, eight zeros. -/
def swappedSource : State :=
  source short
    (bytesOf [0, 0, 0, 0, 0, 0xA1, 0xA0, 0xA3, 0xA2, 0xA5, 0xA4, 0xA7, 0xA6, 0x2B, 0x28, 0x31, 0x2E, 0x37, 0x34, 0x3D,
      0x3A, 0x43, 0x40, 0x49, 0x46, 0x4F, 0x4C, 0x55, 0x52, 0, 0, 0, 0, 0, 0, 0, 0]) 37

/-- A minimal-build source of 39207 bytes: `MonoN` at 0 and `MonoS` at 19607, 7 bytes after `EXPECTED` (W2, V-S5). -/
def driftSource : State :=
  source tcfgMin (Memory.cellsFrom 0 testSeed ++ Memory.cellsFrom 19600 (List.replicate 7 0 ++ pairSwap testSeed)) 39207

/-- The same source with the first frame located. -/
def driftLocked : State :=
  { driftSource with
    wst := .locked, curOff := 0, curVar := .monoN, expected := 19600, drift := 0, count := 1
    aligned := true, curValid := true, emit := true }

/-- The same source after the missed hop. -/
def driftResyncing : State := { driftLocked with wst := .resyncing, emit := false }

/-- A minimal-build source of two frames without a gap, the first of them located. -/
def hopLocked : State :=
  { driftLocked with
    src := Memory.cellsFrom 0 testSeed ++ Memory.cellsFrom 19600 (pairSwap testSeed), srcLen := 39200 }

/-- A walk that has ended with two frames. -/
def ended : State :=
  { driftLocked with
    wst := .exhausted, cause := .exhausted, curOff := 19607, curVar := .monoS, expected := 39207
    drift := 7, count := 2, aligned := false, emit := false }

/-- A pass that a wrong length has ended. -/
def failed : State := { State.reset with wst := .failed, cause := .lengthPrecondition }

/-! ### Decoding: words written out bit by bit from R80 and R81 -/

theorem test_decode_nop : decode 0b0000_0_000#8 = .ok .nop := by decide
theorem test_decode_init : decode 0b0001_0_000#8 = .ok .init := by decide
theorem test_decode_probe : decode 0b0010_0_000#8 = .ok .probe := by decide
theorem test_decode_match_colorS : decode 0b0011_0_011#8 = .ok (.matchV .colorS) := by decide
theorem test_decode_locate : decode 0b0100_0_000#8 = .ok .locate := by decide
theorem test_decode_fetch : decode 0b0101_0_000#8 = .ok .fetch := by decide
theorem test_decode_decode_xpN : decode 0b0110_0_100#8 = .ok (.decodeV .xpN) := by decide
theorem test_decode_wstep : decode 0b0111_0_000#8 = .ok .wstep := by decide
theorem test_decode_next : decode 0b1000_0_000#8 = .ok .next := by decide

/-- One byte for each of the four ways to be illegal (R81, R84). -/
theorem test_decode_illegal :
    decode 0b1001_0_000#8 = .error .reservedOp ∧ decode 0b0000_1_000#8 = .error .bit3Set
      ∧ decode 0b0110_0_110#8 = .error .reservedVariant ∧ decode 0b0010_0_001#8 = .error .varNotZero := by
  decide

/-- R81: 19 legal bytes. -/
theorem test_nineteen_legal_bytes :
    ((List.range 256).filter fun b => (decode (BitVec.ofNat 8 b)).toOption.isSome).length = 19 := by
  decide +kernel

theorem test_table_word : decodeTableWord 8 0x65 = some (.decodeV .xpS) ∧ decodeTableWord 8 0x36 = none := by
  decide

/-- A word placed for the next step is the command that step runs. -/
theorem test_withFetchWord :
    (afterStep (State.reset.withFetchWord 8 0x70)).cause = .notFound
      ∧ (afterStep (State.reset.withFetchWord 8 0x70)).port = [] := by
  decide

/-! ### Well-formedness: one ill-formed configuration for each check (R7, R166) -/

theorem test_tcfg_is_accepted : (Cfg.ofData? tcfgData).isSome = true := by
  simp [Cfg.ofData?, tcfgData_wf]

theorem test_wf_refuses_short_seed : ({ tcfgData with seedN := [0xA0] } : CfgData).wf = false := by
  decide +kernel

theorem test_wf_refuses_short_marker :
    ({ tcfgData with marker := { tcfgData.marker with xpS := List.replicate 7 0 } } : CfgData).wf = false := by
  decide +kernel

theorem test_wf_refuses_marker_longer_than_its_frame (c : CfgData) (h : c.markerLen .monoN = 19601) :
    c.wf = false := by
  simp [CfgData.wf, CfgData.markersWf, Variant.all, h, Variant.stride, Variant.mode, Mode.stride]

theorem test_wf_refuses_empty_priority : ({ tcfgData with priority := [] } : CfgData).wf = false := by
  decide +kernel

theorem test_wf_refuses_repeated_variant :
    ({ tcfgData with priority := [.colorN, .xpN, .colorN] } : CfgData).wf = false := by
  decide +kernel

theorem test_wf_refuses_short_pixmap (c : CfgData) (h : c.pixmap.color = [⟨1, .hi⟩]) : c.wf = false := by
  simp [CfgData.wf, CfgData.pixmapsWf, pixmapWf, h]

theorem test_wf_refuses_source_index_out_of_range (c : CfgData) (h : ⟨19600, .lo⟩ ∈ c.pixmap.monochrome) :
    c.wf = false := by
  have : pixmapWf c.pixmap.monochrome = false := by
    rw [Bool.eq_false_iff]
    intro hw
    simp only [pixmapWf, Bool.and_eq_true, List.all_eq_true] at hw
    exact absurd (hw.2 _ h) (by decide)
  simp [CfgData.wf, CfgData.pixmapsWf, this]

theorem test_wf_refuses_audio_byte (c : CfgData) (h : ⟨10, .hi⟩ ∈ c.pixmap.colorXP) : c.wf = false := by
  have : pixmapWf c.pixmap.colorXP = false := by
    rw [Bool.eq_false_iff]
    intro hw
    simp only [pixmapWf, Bool.and_eq_true, List.all_eq_true] at hw
    exact absurd (hw.2 _ h) (by decide)
  simp [CfgData.wf, CfgData.pixmapsWf, this]

/-! ### System commands and the host port (section 2.6) -/

/-- E3: bits 31:8 of a `CMD` write do not matter. -/
theorem test_nop_E3 : step (atPort (.write .reg 0x00 0x12345600)) = .next State.reset := rfl

/-- E7. -/
theorem test_init_E7 : (after .init failed).wst = .seeking ∧ (after .init failed).cause = .clear := by decide

/-- E1: `DECODE` with `var` 6 is an illegal byte, whatever `FRAME_LEN` holds. -/
theorem test_illegal_E1 : (afterStep (atPort (.write .reg 0x00 0x66))).cause = .illegalCommand := by decide

/-- E6: in Failed nothing else is done. -/
theorem test_failed_E6 :
    (afterStep { failed with port := [.write .reg 0x00 0xFF] }).cause = .lengthPrecondition := by decide

/-- E4: a read-only register keeps its value. -/
theorem test_port_E4 :
    (afterStep (afterStep { State.reset with port := [wr 0x0D 7, rd 0x0D] })).readData = 0 := by decide

/-- R73, R88: a byte written to FRAME is the byte read back. -/
theorem test_port_frame :
    (afterStep (afterStep { State.reset with port := [wrbFrame 19759 0xAB, rdb .frame 19759] })).readData = 0xAB := by
  decide

/-- W1: the status word after the first frame is located. -/
theorem test_status_W1 : statusWord driftLocked = 0x381 := by decide

/-! ### Matcher (section 2.1) -/

/-- M1, M3. -/
theorem test_probe_M1 :
    (after .probe { probeSource with ls := 1 }).seedNHit = true
      ∧ (after .probe { probeSource with ls := 1 }).seedSHit = false
      ∧ (after .probe { probeSource with ls := 3 }).seedNHit = false := by
  decide +kernel

/-- M4. -/
theorem test_probe_M4 :
    statusWord (after .probe { source tcfg (bytesOf ([0x00] ++ pairSwap testSeed ++ [0x00])) 10 with ls := 1 })
      = 0x040 := by
  decide +kernel

/-- M5, M6: other bytes in the payload slots, and the 8-byte marker. -/
theorem test_match_M5 :
    (after (.matchV .colorN) colorSource).locFound = true ∧ (after (.matchV .colorN) colorSource).locVar = .colorN
      ∧ (after (.matchV .monoN) colorSource).locFound = true := by
  decide +kernel

/-- M8, M10: a byte off the mask positions, and a window that does not fit. -/
theorem test_match_M8 :
    (after (.matchV .colorN) { colorSource with src := colorSource.src.write 10 0x2F }).locFound = false
      ∧ (after (.matchV .colorN) { colorSource with srcLen := 23 }).locFound = false := by
  decide +kernel

/-- V-S2: the masked positions of 40 bytes for a Normal, a Swapped and an XP variant. -/
theorem test_mask_S2 :
    (List.range 40).filter (maskPos tcfgData .monoN 40) = [8, 18, 28, 38]
      ∧ (List.range 40).filter (maskPos tcfgData .colorS 40) = [9, 19, 29, 39]
      ∧ (List.range 332).filter (fun i => decide (320 ≤ i) && maskPos tcfgData .xpN 332 i) = [328, 330, 331] := by
  decide +kernel

/-! ### Locator (section 2.2, P4) -/

/-- P4 rows 6 and 7: found at 5; not found from 6 on, where the last result stays. -/
theorem test_locate_P4 :
    (after .locate { swappedSource with ll := 37 }).locOff = 5
      ∧ (after .locate { swappedSource with ll := 37 }).locVar = .colorS
      ∧ (after .locate { swappedSource with ls := 6, ll := 37, locOff := 5 }).locFound = false
      ∧ (after .locate { swappedSource with ls := 6, ll := 37, locOff := 5 }).locOff = 5 := by
  decide +kernel

/-- LC3, LC4: a window of one offset, and the limit is exclusive. -/
theorem test_locate_LC3 :
    (after .locate { swappedSource with ls := 5, ll := 6 }).locFound = true
      ∧ (after .locate { swappedSource with ls := 0, ll := 5 }).locFound = false := by
  decide +kernel

/-! ### Reorder, audio, pixels (sections 2.3, 2.4) -/

theorem test_pairSwap : pairSwap [0, 1, 2, 3, 4, 5, 6, 7, 8, 9] = [1, 0, 3, 2, 5, 4, 7, 6, 9, 8] := by decide

/-- A1 and A2 on a frame's first 40 bytes: `08 12 1C 26` and `09 13 1D 27`. -/
theorem test_audio_A1 :
    let f : List Byte := (List.range 40).map (BitVec.ofNat 8)
    audioOf (canon .colorN f) = [0x08, 0x12, 0x1C, 0x26] ∧ audioOf (canon .colorS f) = [0x09, 0x13, 0x1D, 0x27] := by
  decide +kernel

/-- Section 2.4's table. -/
theorem test_expand :
    ([0x00, 0x0F, 0xF0, 0xA5, 0x5A, 0x3C, 0x80, 0x01, 0x68, 0xFF] : List Byte).map
        (fun b => (expandHi b, expandLo b))
      = [(0x00, 0x00), (0x00, 0xFF), (0xFF, 0x00), (0xAA, 0x55), (0x55, 0xAA), (0x33, 0xCC), (0x88, 0x00),
          (0x00, 0x11), (0x66, 0x88), (0xFF, 0xFF)] := by
  decide

/-- R170's listed values. -/
theorem test_pixmapRef :
    [0, 2, 11, 12, 36, 428, 431, 432, 34128, 34559].map pixmapRef
      = [⟨1, .hi⟩, ⟨121, .hi⟩, ⟨123, .lo⟩, ⟨4, .hi⟩, ⟨11, .hi⟩, ⟨119, .hi⟩, ⟨239, .lo⟩, ⟨241, .hi⟩, ⟨18961, .hi⟩,
          ⟨19199, .lo⟩] := by
  decide

/-- X3. -/
theorem test_rowMirror_X3 :
    (List.range 3).map (fun o => (rowMirror ((List.range 432).map (BitVec.ofNat 8)))[o]?)
      = [some 0xAF, some 0xAE, some 0xAD] := by
  simp only [show List.range 3 = [0, 1, 2] from rfl, List.map_cons, List.map_nil,
    getElem?_rowMirror _ (show 0 < 34560 by decide), getElem?_rowMirror _ (show 1 < 34560 by decide),
    getElem?_rowMirror _ (show 2 < 34560 by decide)]
  decide +kernel

/-- A8, and R147's length check. -/
theorem test_fetch_A8 :
    (after .fetch State.reset).cause = .illegalCommand
      ∧ (after .fetch { driftLocked with srcLen := 19599 }).cause = .lengthPrecondition := by
  decide +kernel

/-- P1 row 5: the frame's first bytes. -/
theorem test_fetch_P1 : Memory.read (after .fetch driftLocked).frame 7 = some 0xA7 := by
  decide +kernel

/-- A7: after reset, and with the other stride in `FRAME_LEN`. -/
theorem test_decode_A7 :
    (after (.decodeV .monoN) State.reset).cause = .lengthPrecondition
      ∧ (after (.decodeV .xpN) { State.reset with frameLen := 19600 }).wst = .failed := by
  decide

/-- A3's status: `OUT_VALID` alone, from reset. -/
theorem test_decode_A3 : statusWord (after (.decodeV .monoN) { State.reset with frameLen := 19600 }) = 0x400 := by
  decide +kernel

/-! ### Walker (section 2.5) -/

/-- W5, and W2's first frame. -/
theorem test_wstep_W5 :
    (after .wstep State.reset).cause = .notFound
      ∧ (after .wstep driftSource).wst = .locked ∧ (after .wstep driftSource).expected = 19600 := by
  decide +kernel

/-- W2: the missed hop, and the drift of the frame after it. -/
theorem test_wstep_W2 :
    statusWord (after .wstep driftLocked) = 0x302
      ∧ statusWord (after .wstep driftResyncing) = 0x181 ∧ (after .wstep driftResyncing).drift = 7 := by
  decide +kernel

/-- W5 by NEXT, and W2's last NEXT. -/
theorem test_next_W5 :
    (after .next State.reset).cause = .notFound ∧ statusWord (after .next { ended with outValid := true }) = 0x103 := by
  decide +kernel

/-- W2 by NEXT: the first frame is located, fetched and decoded. -/
theorem test_next_W2 : statusWord (after .next driftSource) = 0x781 := by
  decide +kernel

/-- The script lines stand for the port events of R86 and R87. -/
theorem test_script_open :
    scriptOpen 39200 0 = [.write .reg 3 39200, .write .reg 4 0, .write .reg 0 0x10] := by decide

/-! ### Witnesses: for each obligation with hypotheses, inputs that meet them, one for each clause -/

theorem driftSource_inv : driftSource.Inv := by constructor <;> decide +kernel
theorem driftLocked_inv : driftLocked.Inv := by constructor <;> decide +kernel
theorem driftResyncing_inv : driftResyncing.Inv := by constructor <;> decide +kernel
theorem hopLocked_inv : hopLocked.Inv := by constructor <;> decide +kernel
theorem ended_inv : ended.Inv := by constructor <;> decide +kernel
theorem failed_inv : failed.Inv := by constructor <;> decide

theorem witness_ResetStateValues :
    19759 < Space.size .frame ∧ 1975 < Space.size .audio ∧ 34559 < Space.size .pixel := by decide

theorem witness_ResetInputRestoresResetState :
    ∃ (s : State) (rest : List PortEvent), s.port = .reset :: rest ∧ s.wst = .failed ∧ s.busy = true :=
  ⟨{ failed with port := [.reset, rd 1], busy := true }, [rd 1], rfl, rfl, rfl⟩

theorem witness_DecodeEncodeAgree : decode 0x65 = .ok (.decodeV .xpS) ∧ decode 0x00 = .ok .nop := by decide

theorem witness_StepRunsTheDecodedCommand :
    ∃ (s : State) (rest : List PortEvent) (data : Word) (i : Instr),
      s.busy = false ∧ s.port = .write .reg 0x00 data :: rest ∧ decode (data.extractLsb' 0 8) = .ok i :=
  ⟨atPort (.write .reg 0x00 0xFFFFFF65), [], 0xFFFFFF65, .decodeV .xpS, rfl, rfl, by decide⟩

theorem witness_IllegalByteRaises :
    (∃ (s : State) (rest : List PortEvent) (data : Word), s.busy = false ∧ s.port = .write .reg 0x00 data :: rest
      ∧ (decode (data.extractLsb' 0 8)).toOption = none ∧ s.wst ≠ .failed)
    ∧ ∃ (s : State) (rest : List PortEvent) (data : Word), s.busy = false ∧ s.port = .write .reg 0x00 data :: rest
      ∧ (decode (data.extractLsb' 0 8)).toOption = none ∧ s.wst = .failed :=
  ⟨⟨atPort (.write .reg 0x00 0x90), [], 0x90, rfl, rfl, by decide, by decide⟩,
    ⟨{ failed with port := [.write .reg 0x00 0x36] }, [], 0x36, rfl, rfl, by decide, rfl⟩⟩

theorem witness_FailedIgnoresAllButNopAndInit :
    ∃ (s : State) (rest : List PortEvent) (data : Word), s.busy = false ∧ s.wst = .failed
      ∧ s.port = .write .reg 0x00 data :: rest ∧ data.extractLsb' 0 8 ≠ 0x00 ∧ data.extractLsb' 0 8 ≠ 0x10 :=
  ⟨{ failed with port := [.write .reg 0x00 0x80] }, [], 0x80, rfl, rfl, rfl, by decide, by decide⟩

theorem witness_EmptyPortWaitsBusyPortIsStuck :
    State.reset.port = []
      ∧ ∃ (s : State) (e : PortEvent) (rest : List PortEvent), s.port = e :: rest ∧ s.busy = true ∧ e ≠ .reset :=
  ⟨rfl, { atPort (rd 1) with busy := true }, rd 1, [], rfl, rfl, by decide⟩

theorem witness_NothingElseStopsTheBlock : State.reset.busy = false := rfl

theorem witness_ReadWriteRegistersTakeTheWord :
    ∀ index ∈ [(0x03 : BitVec 16), 0x04, 0x05, 0x06, 0x0E],
      (atPort (.write .reg index 0xFFFFFFFF)).busy = false
        ∧ (atPort (.write .reg index 0xFFFFFFFF)).port = [.write .reg index 0xFFFFFFFF] :=
  fun _ _ => ⟨rfl, rfl⟩

theorem witness_AccessToNothingIsIgnored :
    ((0x01 : BitVec 16) ∉ [(0x00 : BitVec 16), 0x03, 0x04, 0x05, 0x06, 0x0E]
        ∧ (0x0F : BitVec 16) ∉ [(0x00 : BitVec 16), 0x03, 0x04, 0x05, 0x06, 0x0E]
        ∧ (atPort (wr 0x0F 1)).port = [.write .reg 0x0F 1])
      ∧ (19760 ≤ (19760 : BitVec 16).toNat ∧ (atPort (.write .frame 19760 1)).port = [.write .frame 19760 1])
      ∧ ((atPort (.write .audio 0 1)).port = [.write .audio 0 1]
        ∧ (atPort (.write .pixel 34559 1)).port = [.write .pixel 34559 1])
      ∧ (0x0F < (0x10 : BitVec 16).toNat ∧ (atPort (rd 0x10)).port = [.read .reg 0x10])
      ∧ (1976 ≤ (1976 : BitVec 16).toNat ∧ (atPort (rdb .audio 1976)).port = [.read .audio 1976])
      ∧ (34560 ≤ (34560 : BitVec 16).toNat ∧ (atPort (rdb .pixel 34560)).port = [.read .pixel 34560])
      ∧ State.reset.busy = false := by
  refine ⟨⟨?_, ?_, rfl⟩, ⟨?_, rfl⟩, ⟨rfl, rfl⟩, ⟨?_, rfl⟩, ⟨?_, rfl⟩, ⟨?_, rfl⟩, rfl⟩ <;> decide

theorem witness_RegisterReads :
    ∀ index ∈ [(0x00 : BitVec 16), 0x01, 0x0F, 0x10, 0xFFFF],
      (atPort (rd index)).busy = false ∧ (atPort (rd index)).port = [.read .reg index] :=
  fun _ _ => ⟨rfl, rfl⟩

theorem witness_FrameWriteReplacesOneByte :
    ∃ (s : State) (rest : List PortEvent) (index : BitVec 16) (data : Word),
      s.busy = false ∧ index.toNat < 19760 ∧ s.port = .write .frame index data :: rest ∧ 0 ≠ index.toNat :=
  ⟨atPort (.write .frame 19759 0xFFFFFFAB), [], 19759, 0xFFFFFFAB, rfl, by decide, rfl, by decide⟩

theorem witness_BufferReads :
    (∃ (s : State) (rest : List PortEvent) (index : BitVec 16) (sp : Space) (b : Byte), s.busy = false ∧ sp ≠ .reg
      ∧ index.toNat < sp.size ∧ s.port = .read sp index :: rest ∧ Memory.read (s.buffer sp) index.toNat = some b)
    ∧ ∃ (s : State) (rest : List PortEvent) (index : BitVec 16) (sp : Space), s.busy = false ∧ sp ≠ .reg
      ∧ index.toNat < sp.size ∧ s.port = .read sp index :: rest ∧ Memory.read (s.buffer sp) index.toNat = none :=
  ⟨⟨{ atPort (rdb .audio 1975) with audio := [(1975, 0x7F)] }, [], 1975, .audio, 0x7F, rfl, by decide, by decide, rfl,
      by decide⟩,
    ⟨atPort (rdb .pixel 34559), [], 34559, .pixel, rfl, by decide, by decide, rfl, rfl⟩⟩

theorem witness_RaiseWritesOnlyItsFour : Cause.exhausted ≠ .clear ∧ Cause.illegalCommand ≠ .clear := by decide

theorem witness_AcceptRecordsTheFrame :
    ∃ (s : State) (p d : Nat) (v : Variant), p + v.stride ≤ s.srcLen.toNat ∧ d ≤ p ∧ 0 < d :=
  ⟨{ State.reset with srcLen := 0xFFFFFFFF }, 4294947535, 4294947535, .xpS, by decide⟩

theorem witness_ProbeSetsTheSeedFlags :
    probeSource.wst ≠ .failed ∧ failed.wst = .failed
      ∧ (1 + 8 ≤ probeSource.srcLen.toNat
        ∧ ∀ i < 8, probeSource.cfg.data.seedN[i]? = some (probeSource.srcByte (1 + i))) := by
  refine ⟨by decide, rfl, by decide, ?_⟩
  decide +kernel

theorem witness_MaskZeroesItsPositions :
    maskedSlot tcfgData .monoN 8 ∧ ¬ maskedSlot tcfgData .monoN 9 ∧ maskedSlot tcfgData .colorS 329
      ∧ maskedSlot tcfgData .xpN 331 ∧ ¬ maskedSlot tcfgData .xpS 8 := by
  refine ⟨⟨0, rfl⟩, ?_, ⟨32, rfl⟩, ?_, ?_⟩
  · rintro ⟨j, h⟩
    omega
  · show 331 ∈ tcfgData.xpMaskN
    decide +kernel
  · show ¬ 8 ∈ tcfgData.xpMaskS
    decide +kernel

theorem witness_MatchCommand :
    (colorSource.wst ≠ .failed ∧ matchesAt colorSource .colorN colorSource.ls.toNat = true)
      ∧ matchesAt colorSource .monoS colorSource.ls.toNat = false ∧ failed.wst = .failed
      ∧ (0x36 ≤ (0x36 : Byte).toNat ∧ (0x3F : Byte).toNat ≤ 0x3F) := by
  refine ⟨⟨by decide, ?_⟩, ?_, rfl, by decide⟩ <;> decide +kernel

theorem witness_LocateWindowLaws :
    (5 ≤ 5) ∧ 8 ≤ ({ State.reset with srcLen := 8 } : State).srcLen.toNat
      ∧ ({ State.reset with srcLen := 7 } : State).srcLen.toNat < 8 ∧ (0 ≤ 0 ∧ 0 ≤ 4) := by decide

theorem witness_ZeroSourceHasNoMarker :
    ∃ s : State, s.cfg.data.pNonzero ∧ (∀ i < s.srcLen.toNat, s.srcByte i = 0) ∧ 8 < s.srcLen.toNat := by
  refine ⟨source tcfg (bytesOf (List.replicate 20 0)) 20, .inr ⟨⟨0xA0, ?_, by decide⟩, ⟨0xA1, ?_, by decide⟩⟩, ?_, ?_⟩ <;>
    decide +kernel

theorem witness_SeedFilterTurnsNoMarkerAway :
    ∃ (s : State) (p : Nat) (v : Variant), s.cfg.data.pPrefix ∧ (∀ i ∈ s.cfg.data.xpMaskN, 8 ≤ i)
      ∧ (∀ i ∈ s.cfg.data.xpMaskS, 8 ≤ i) ∧ classify s p = some v := by
  refine ⟨driftSource, 19607, .monoS, ?_, ?_, ?_, ?_⟩
  · unfold CfgData.pPrefix
    decide +kernel
  all_goals decide +kernel

theorem witness_LocateCommand :
    (swappedSource.wst ≠ .failed ∧ locate { swappedSource with ll := 37 } 0 37 = some (5, .colorS))
      ∧ locate swappedSource swappedSource.ls.toNat swappedSource.ll.toNat = none ∧ failed.wst = .failed := by
  refine ⟨⟨by decide, ?_⟩, ?_, rfl⟩ <;> decide +kernel

theorem witness_PairSwapExchangesNeighbours :
    ([0, 1, 2, 3] : List Byte).length % 2 = 0 ∧ 1 < ([0, 1, 2, 3] : List Byte).length / 2 := by decide

theorem witness_AudioIsEveryTenthByte (v : Variant) :
    ∃ (f : List Byte) (j : Nat), f.length = v.stride ∧ j < v.stride / 10 ∧ j + 1 = v.stride / 10 :=
  ⟨List.replicate v.stride 0xA5, v.stride / 10 - 1, List.length_replicate, by cases v <;> decide⟩

theorem witness_PixelByteComesFromItsMapEntry (v : Variant) :
    ∃ (f : List Byte) (r x : Nat), f.length = v.stride ∧ r < 80 ∧ x < 432 ∧ 432 * r + x = 34559 :=
  ⟨List.replicate v.stride 0xA5, 79, 431, List.length_replicate, by decide⟩

theorem witness_PixelsWhateverTheMap (c : Cfg) (v : Variant) :
    ∃ f : List Byte, f.length = v.stride ∧ ∃ b, b ∈ pixelsOf c.data v f := by
  refine ⟨List.replicate v.stride 0xA5, List.length_replicate, ?_⟩
  exact List.exists_mem_of_length_pos (by rw [length_pixelsOf]; exact Nat.succ_pos _)

theorem witness_RowMirrorReversesEachRow : ∃ p : List Byte, p.length = 34560 :=
  ⟨List.replicate 34560 0, List.length_replicate⟩

theorem witness_AudioAndPixelsAreIndependent :
    ∃ f g h : List Byte, f.length = Variant.monoN.stride ∧ g.length = Variant.monoN.stride
      ∧ h.length = Variant.monoN.stride
      ∧ (∀ i < Variant.monoN.stride, i % 10 ≠ Variant.monoN.orient.audStart → f[i]? = g[i]?)
      ∧ (∀ i < Variant.monoN.stride, i % 10 = Variant.monoN.orient.audStart → f[i]? = h[i]?) := by
  refine ⟨List.replicate 19600 0, (List.replicate 19600 0).set 19598 1, (List.replicate 19600 0).set 19599 1,
    List.length_replicate, by rw [List.length_set]; exact List.length_replicate,
    by rw [List.length_set]; exact List.length_replicate, ?_, ?_⟩
  · intro i _ h
    rw [List.getElem?_set_ne]
    rintro rfl
    exact h (by decide)
  · intro i _ h
    rw [List.getElem?_set_ne]
    rintro rfl
    exact absurd h (by decide)

theorem witness_FetchCommand_delivers :
    ∃ s : State, s.wst ≠ .failed ∧ s.curValid = true ∧ s.curOff.toNat + s.curVar.stride ≤ s.srcLen.toNat :=
  ⟨{ driftLocked with srcLen := 19600 }, by decide, rfl, by decide⟩

theorem witness_FetchCommand_raises :
    (State.reset.wst ≠ .failed ∧ State.reset.curValid = false)
      ∧ (driftLocked.wst ≠ .failed ∧ driftLocked.curValid = true
        ∧ ({ driftLocked with srcLen := 19599 } : State).srcLen.toNat
            < driftLocked.curOff.toNat + driftLocked.curVar.stride)
      ∧ failed.wst = .failed := by decide

theorem witness_DecodeCommand_delivers :
    ∃ s : State, s.wst ≠ .failed ∧ s.frameLen.toNat = Variant.xpN.stride
      ∧ Memory.read s.frame 19759 = some 0x5A ∧ Memory.read s.frame 0 = none :=
  ⟨{ State.reset with frameLen := 19760, frame := [(19759, 0x5A)] }, by decide⟩

theorem witness_DecodeCommand_raises :
    (State.reset.wst ≠ .failed ∧ State.reset.frameLen.toNat ≠ Variant.monoN.stride) ∧ failed.wst = .failed := by decide

theorem witness_WstepSeeking :
    (driftSource.wst = .seeking ∧ (∀ v ∈ driftSource.cfg.data.priority, v.stride ≤ 19600)
        ∧ ∃ v ∈ driftSource.cfg.data.priority, v.stride = 19600)
      ∧ (locate driftSource 0 (0 + 19600) = some (0, .monoN) ∧ 0 + Variant.monoN.stride ≤ driftSource.srcLen.toNat)
      ∧ (locate { driftSource with srcLen := 19599 } 0 (0 + 19600) = some (0, .monoN)
        ∧ (19599 : Word).toNat < 0 + Variant.monoN.stride)
      ∧ locate { driftSource with srcLen := 7 } 0 (0 + 19600) = none := by
  refine ⟨⟨rfl, ?_, ?_⟩, ⟨?_, ?_⟩, ⟨?_, ?_⟩, ?_⟩ <;> decide +kernel

theorem witness_WstepLocked :
    (hopLocked.wst = .locked ∧ seedHit hopLocked 19600 = true ∧ classify hopLocked 19600 = some .monoS
        ∧ 19600 + Variant.monoS.stride ≤ hopLocked.srcLen.toNat)
      ∧ (classify { hopLocked with srcLen := 39199 } 19600 = some .monoS
        ∧ (39199 : Word).toNat < 19600 + Variant.monoS.stride)
      ∧ (driftLocked.wst = .locked ∧ seedHit driftLocked 19600 = false) := by
  decide +kernel

theorem witness_WstepResyncing :
    (driftResyncing.wst = .resyncing
        ∧ locate driftResyncing 19600 driftResyncing.srcLen.toNat = some (19607, .monoS)
        ∧ 19607 + Variant.monoS.stride ≤ driftResyncing.srcLen.toNat)
      ∧ (locate { driftResyncing with srcLen := 39206 } 19600 39206 = some (19607, .monoS)
        ∧ (39206 : Word).toNat < 19607 + Variant.monoS.stride)
      ∧ locate { driftResyncing with srcLen := 19614 } 19600 19614 = none := by
  decide +kernel

theorem witness_WstepTerminal : ended.wst = .exhausted ∧ failed.wst = .failed := by decide

/-- For WstepTakesATableRow, EveryStepKeepsTheInvariants and NextDeliversTheLocatedFrame: a state of each kind. -/
theorem witness_invariants :
    (driftSource.Inv ∧ driftSource.wst = .seeking) ∧ (driftLocked.Inv ∧ driftLocked.wst = .locked)
      ∧ (driftResyncing.Inv ∧ driftResyncing.wst = .resyncing) ∧ (ended.Inv ∧ ended.wst = .exhausted)
      ∧ (failed.Inv ∧ failed.wst = .failed) :=
  ⟨⟨driftSource_inv, rfl⟩, ⟨driftLocked_inv, rfl⟩, ⟨driftResyncing_inv, rfl⟩, ⟨ended_inv, rfl⟩, ⟨failed_inv, rfl⟩⟩

theorem witness_WstepTakesATableRow : ∃ s t : State, s.Inv ∧ exec .wstep s = .next t ∧ t.wst = .resyncing :=
  ⟨driftLocked, _, driftLocked_inv, rfl, by decide +kernel⟩

theorem witness_WstepLeavesThePrimitivesAlone : ∃ s t : State, exec .wstep s = .next t ∧ t.emit = true :=
  ⟨hopLocked, _, rfl, by decide +kernel⟩

theorem witness_NextLeavesTheRestAlone :
    ∃ s t : State, exec .next s = .next t ∧ t.frameLen.toNat ≤ 19600 ∧ t.audioLen.toNat ≤ 1960 :=
  ⟨ended, _, rfl, by decide +kernel⟩

theorem witness_NextIsItsScript :
    failed.wst = .failed ∧ ended.wst = .exhausted ∧ driftLocked.wst.terminal = false
      ∧ (after .wstep driftSource).emit = true ∧ (after .wstep State.reset).emit = false := by
  decide +kernel

/-- Each of the four ways to emit, and a NEXT that does not. -/
theorem witness_NextDeliversTheLocatedFrame :
    locate driftSource 0 (0 + driftSource.cfg.data.seekWindow) = some (0, .monoN)
      ∧ locate hopLocked 19600 (19600 + 1) = some (19600, .monoS)
      ∧ (locate driftLocked 19600 (19600 + 1) = none
        ∧ locate driftLocked 19600 driftLocked.srcLen.toNat = some (19607, .monoS))
      ∧ locate driftResyncing 19600 driftResyncing.srcLen.toNat = some (19607, .monoS)
      ∧ (after .next ended).emit = false := by
  decide +kernel

theorem witness_EveryStepKeepsTheInvariants :
    ∃ s t : State, s.Inv ∧ s.HostKeepsSource ∧ step s = .next t ∧ s.curValid = true ∧ t.wst = .resyncing :=
  ⟨{ driftLocked with port := [cmd .wstep] }, _,
    ⟨driftLocked_inv.notBusy, driftLocked_inv.seeking, driftLocked_inv.walking, driftLocked_inv.located,
      driftLocked_inv.exhaustedCause, driftLocked_inv.failedCause, driftLocked_inv.causeEnds, driftLocked_inv.failedOut,
      driftLocked_inv.outLen, driftLocked_inv.framesFit, driftLocked_inv.countZero, driftLocked_inv.srcWf,
      driftLocked_inv.frameWf, driftLocked_inv.audioWf, driftLocked_inv.pixelWf⟩,
    fun _ _ h _ => (nomatch h), rfl, rfl, by decide +kernel⟩

theorem witness_SourceAndConfigurationNeverChange : ∃ s t : State, step s = .next t :=
  ⟨atPort (cmd .next), _, rfl⟩

theorem witness_OutputsWrittenByDecodeAndNextOnly :
    (∃ s t : State, step s = .next t ∧ t.audioLen ≠ s.audioLen ∧ s.port = [cmd (.decodeV .monoN)])
      ∧ ∃ s t : State, step s = .next t ∧ t.pixel ≠ s.pixel ∧ s.port = [.reset] :=
  ⟨⟨{ atPort (cmd (.decodeV .monoN)) with frameLen := 19600 }, _, rfl, by decide +kernel, rfl⟩,
    ⟨{ atPort .reset with pixel := [(0, 1)] }, _, rfl, by decide, rfl⟩⟩

/-- The cause stays, gives way to a fatal one, and is cleared by INIT. -/
theorem witness_CauseIsSticky :
    ended.Inv ∧ ended.cause ≠ .clear
      ∧ (afterStep { ended with port := [cmd .wstep] }).cause = .exhausted
      ∧ (afterStep { ended with port := [cmd (.decodeV .xpN)] }).cause = .lengthPrecondition
      ∧ (afterStep { ended with port := [cmd .init] }).cause = .clear :=
  ⟨ended_inv, by decide, by decide, by decide, by decide⟩

theorem witness_LocatedOffsetsIncrease :
    ∃ s t : State, s.Inv ∧ s.curValid = true ∧ exec .wstep s = .next t ∧ t.emit = true :=
  ⟨hopLocked, _, hopLocked_inv, rfl, rfl, by decide +kernel⟩

theorem witness_ResyncReportsTheDrift :
    driftLocked.wst = .locked ∧ 0 < 7
      ∧ (∀ q, driftLocked.expected.toNat ≤ q → q < driftLocked.expected.toNat + 7 →
        seedHit driftLocked q = false ∨ classify driftLocked q = none)
      ∧ seedHit driftLocked (driftLocked.expected.toNat + 7) = true
      ∧ classify driftLocked (driftLocked.expected.toNat + 7) = some .monoS
      ∧ driftLocked.expected.toNat + 7 + Variant.monoS.stride ≤ driftLocked.srcLen.toNat := by
  refine ⟨rfl, by decide, fun q h₁ h₂ => ?_, ?_, ?_, ?_⟩
  · obtain ⟨k, rfl⟩ := Nat.exists_eq_add_of_le h₁
    have h : ∀ k < 7, seedHit driftLocked (driftLocked.expected.toNat + k) = false := by decide +kernel
    exact .inl (h k (by omega))
  all_goals decide +kernel

theorem witness_WalkEndsWithinTheBound : driftSource.Inv ∧ driftSource.wst = .seeking :=
  ⟨driftSource_inv, rfl⟩

theorem witness_WalkRestartsByRecomputation :
    ∃ (s s' t t' : State) (n : Nat), s ≠ s' ∧ s.cfg = s'.cfg ∧ s.src = s'.src ∧ s.srcLen = s'.srcLen
      ∧ s.start = s'.start ∧ execAll (.init :: List.replicate n .next) s = .next t
      ∧ execAll (.init :: List.replicate n .next) s' = .next t' ∧ t.emit = true :=
  ⟨driftSource, ended, _, _, 1, fun h => (nomatch congrArg State.wst h), rfl, rfl, rfl, rfl, rfl, rfl,
    by decide +kernel⟩

/-- The record of `hopLocked`'s walk: one frame, at offset 0. -/
def hopWalk : Walk := ⟨0, [(0, .monoN)]⟩

theorem hopWalk_fits : hopWalk.Fits hopLocked := by constructor <;> decide +kernel

/-- A second frame is located and fills the source to its last byte; the premise is R279's, the port holding no write
of `SRC_LEN`. -/
theorem witness_LocatedFramesFitTheSource :
    ∃ (s t : State) (w : Walk), s.Inv ∧ w.Fits s ∧ s.HostKeepsSource ∧ step s = .next t
      ∧ (w.after s t).frames = [(19600, .monoS), (0, .monoN)]
      ∧ w.start = s.start.toNat ∧ t.start = s.start
      ∧ strideSum (w.after s t).frames = t.srcLen.toNat - t.start.toNat :=
  ⟨{ hopLocked with port := [cmd .wstep] }, _, hopWalk,
    ⟨hopLocked_inv.notBusy, hopLocked_inv.seeking, hopLocked_inv.walking, hopLocked_inv.located,
      hopLocked_inv.exhaustedCause, hopLocked_inv.failedCause, hopLocked_inv.causeEnds, hopLocked_inv.failedOut,
      hopLocked_inv.outLen, hopLocked_inv.framesFit, hopLocked_inv.countZero, hopLocked_inv.srcWf,
      hopLocked_inv.frameWf, hopLocked_inv.audioWf, hopLocked_inv.pixelWf⟩,
    ⟨hopWalk_fits.counted, hopWalk_fits.fresh, hopWalk_fits.newest, hopWalk_fits.apart, hopWalk_fits.inside,
      hopWalk_fits.sum⟩,
    fun _ _ h _ => (nomatch h), rfl, by decide +kernel, by decide, by decide +kernel,
    by decide +kernel⟩

/-- INIT empties the record, and a write of `START` in Seeking moves its beginning. -/
theorem test_walk_record_begins_again :
    hopWalk.after hopLocked (startPass hopLocked) = ⟨0, []⟩
      ∧ Walk.after ⟨0, []⟩ State.reset { State.reset with start := 5 } = ⟨5, []⟩ := by decide

end Sys2Proof.Tests
end

section
/-! PROOF. No operation writes the source or the configuration (R6, R20, R60, R71). -/

namespace Sys2Proof.Machine

/-- `t` holds the configuration and the source that `s` holds: the two parameters of a step (R6, R20, R60). -/
def State.SameSource (s t : State) : Prop := t.cfg = s.cfg ∧ t.src = s.src

namespace State.SameSource

@[refl, simp] theorem refl (s : State) : s.SameSource s := ⟨rfl, rfl⟩

@[trans] theorem trans {s t u : State} (h : s.SameSource t) (h' : t.SameSource u) : s.SameSource u :=
  ⟨h'.1.trans h.1, h'.2.trans h.2⟩

end State.SameSource

/-! ### The updates the commands share -/

@[simp] theorem sameSource_raise (x : Cause) (s : State) : s.SameSource (raise x s) := ⟨rfl, rfl⟩

@[simp] theorem sameSource_startPass (s : State) : s.SameSource (startPass s) := ⟨rfl, rfl⟩

@[simp] theorem sameSource_setSeedHits (s : State) (n w : Bool) : s.SameSource (s.setSeedHits n w) := ⟨rfl, rfl⟩

@[simp] theorem sameSource_setLocated (s : State) (p : Word) (v : Variant) :
    s.SameSource (s.setLocated p v) := ⟨rfl, rfl⟩

@[simp] theorem sameSource_setNotLocated (s : State) : s.SameSource s.setNotLocated := ⟨rfl, rfl⟩

@[simp] theorem sameSource_setFrame (s : State) (bs : List Byte) : s.SameSource (s.setFrame bs) := ⟨rfl, rfl⟩

@[simp] theorem sameSource_setDecoded (s : State) (audio pixels : List Byte) :
    s.SameSource (s.setDecoded audio pixels) := ⟨rfl, rfl⟩

@[simp] theorem sameSource_withPort (s : State) (rest : List PortEvent) : s.SameSource (s.withPort rest) := ⟨rfl, rfl⟩

@[simp] theorem sameSource_accept (p : Nat) (v : Variant) (d : Nat) (s : State) :
    s.SameSource (accept p v d s) := ⟨rfl, rfl⟩

@[simp] theorem sameSource_hopMissed (s : State) : s.SameSource (hopMissed s) := ⟨rfl, rfl⟩

@[simp] theorem sameSource_clearEmit (s : State) : s.SameSource (clearEmit s) := ⟨rfl, rfl⟩

@[simp] theorem sameSource_clearOut (s : State) : s.SameSource (clearOut s) := ⟨rfl, rfl⟩

@[simp] theorem sameSource_hostRead (s : State) (sp : Space) (i : Nat) : s.SameSource (hostRead s sp i) := ⟨rfl, rfl⟩

@[simp] theorem sameSource_resetBlock (s : State) : s.SameSource (resetBlock s) := ⟨rfl, rfl⟩

theorem sameSource_unlessFailed {s : State} {act : State → State} (h : s.SameSource (act s)) :
    s.SameSource (unlessFailed s act) := by
  unfold unlessFailed
  split
  · rfl
  · exact h

/-! ### The commands -/

theorem sameSource_matchStep (v : Variant) (s : State) : s.SameSource (matchStep v s) := by
  unfold matchStep
  split <;> simp

theorem sameSource_locateStep (s : State) : s.SameSource (locateStep s) := by
  unfold locateStep
  split <;> simp

theorem sameSource_fetchStep (s : State) : s.SameSource (fetchStep s) := by
  obtain ⟨w, -, -, h⟩ | ⟨-, -, h⟩ | ⟨-, h⟩ := fetchStep_cases s <;> simp [h]

theorem sameSource_decodeStep (v : Variant) (s : State) : s.SameSource (decodeStep v s) := by
  obtain ⟨-, h⟩ | ⟨-, h⟩ := decodeStep_cases v s <;> simp [h]

theorem sameSource_walkStep (s : State) : s.SameSource (walkStep s) := by
  obtain ⟨p, v, d, h, -⟩ | ⟨h, -⟩ | ⟨h, -⟩ | ⟨h, -⟩ | ⟨h, -⟩ | ⟨h, -⟩ := walkStep_cases s <;> simp [h]

theorem sameSource_walkUntil_two (s : State) : s.SameSource (walkUntil 2 s) := by
  obtain h | ⟨-, -, h⟩ := walkUntil_cases s <;> rw [h]
  · exact sameSource_walkStep s
  · exact (sameSource_walkStep s).trans (sameSource_walkStep _)

theorem sameSource_deliver (s : State) : s.SameSource (deliver s) :=
  (sameSource_fetchStep s).trans (sameSource_unlessFailed (sameSource_decodeStep _ _))

theorem sameSource_nextStep (s : State) : s.SameSource (nextStep s) := by
  unfold nextStep
  split
  · exact (sameSource_clearEmit s).trans (sameSource_clearOut _)
  · split
    · exact (sameSource_walkUntil_two s).trans (sameSource_deliver _)
    · exact (sameSource_walkUntil_two s).trans (sameSource_clearOut _)

/-- R60, R71: no command writes the source or the configuration. -/
theorem sameSource_exec {i : Instr} {s t : State} (h : exec i s = .next t) : s.SameSource t := by
  cases i with
  | nop => cases h; rfl
  | init => cases h; exact sameSource_startPass s
  | probe => cases h; exact sameSource_unlessFailed (sameSource_setSeedHits s _ _)
  | matchV v => cases h; exact sameSource_unlessFailed (sameSource_matchStep v s)
  | locate => cases h; exact sameSource_unlessFailed (sameSource_locateStep s)
  | fetch => cases h; exact sameSource_unlessFailed (sameSource_fetchStep s)
  | decodeV v => cases h; exact sameSource_unlessFailed (sameSource_decodeStep v s)
  | wstep => cases h; exact sameSource_unlessFailed (sameSource_walkStep s)
  | next => cases h; exact sameSource_unlessFailed (sameSource_nextStep s)

/-! ### The host port and the step -/

/-- No register write, buffer access or reset reaches the source or the configuration (R88, R270). -/
theorem sameSource_portStep (s : State) (e : PortEvent) : s.SameSource (portStep s e) := by
  obtain ⟨x, h, -⟩ | ⟨x, h⟩ | ⟨x, h⟩ | ⟨x, h⟩ | ⟨x, h⟩ | ⟨i, b, h, -⟩ | ⟨sp, i, h⟩ | ⟨h, -⟩ | h := portStep_cases s e <;>
    rw [h] <;> exact ⟨rfl, rfl⟩

/-- R20: a step, of whatever event, leaves its two parameters as they are. -/
theorem sameSource_step {s t : State} (h : step s = .next t) : s.SameSource t := by
  obtain ⟨-, rfl⟩ | ⟨e, rest, -, -, hexec | hillegal | hport⟩ := step_cases h
  · rfl
  · obtain ⟨b, i, -, -, hi⟩ := hexec
    exact (sameSource_withPort s rest).trans (sameSource_exec hi)
  · obtain ⟨b, r, -, -, rfl⟩ := hillegal
    exact (sameSource_withPort s rest).trans (sameSource_unlessFailed (sameSource_raise _ _))
  · obtain ⟨-, rfl⟩ := hport
    exact (sameSource_withPort s rest).trans (sameSource_portStep _ e)

/-- Settles O52: `step_cases` names what a step can do, and each of these keeps the source. -/
theorem sourceAndConfigurationNeverChange : Obligations.SourceAndConfigurationNeverChange :=
  fun _ _ h => sameSource_step h

end Sys2Proof.Machine
end

section
/-! PROOF. The shared updates keep the invariants of R37, each under the guard its command checks. -/

namespace Sys2Proof.Machine

/-! ### What no invariant speaks of -/

/-- `t` differs from `s` at most in the operand registers, the results of the primitives (R109, R110, R126) and the
host's side of the port: the walker, the causes, the source and the three buffers are as in `s`. -/
def State.SameCore (s t : State) : Prop :=
  t = { s with
    start := t.start, ls := t.ls, ll := t.ll, frameLen := t.frameLen, locFound := t.locFound
    locOff := t.locOff, locVar := t.locVar, seedNHit := t.seedNHit, seedSHit := t.seedSHit
    port := t.port, readData := t.readData, draws := t.draws }

theorem sameCore_probeStep (s : State) : s.SameCore (probeStep s) := rfl

theorem sameCore_matchStep (v : Variant) (s : State) : s.SameCore (matchStep v s) := by
  unfold matchStep
  split <;> rfl

theorem sameCore_locateStep (s : State) : s.SameCore (locateStep s) := by
  unfold locateStep
  split <;> rfl

theorem sameCore_withPort (s : State) (rest : List PortEvent) : s.SameCore (s.withPort rest) := rfl

/-- A port event that starts no command writes `SRC_LEN`, writes a byte of FRAME, resets the block, or leaves its core
alone. -/
theorem portStep_core (s : State) (e : PortEvent) :
    (∃ x, e = .write .reg 0x03 x ∧ portStep s e = { s with srcLen := x })
    ∨ (∃ i b, i < frameBytesMax ∧ portStep s e = { s with frame := s.frame.write i b })
    ∨ (e = .reset ∧ portStep s e = resetBlock s)
    ∨ s.SameCore (portStep s e) := by
  obtain ⟨x, h, he⟩ | ⟨x, h⟩ | ⟨x, h⟩ | ⟨x, h⟩ | ⟨x, h⟩ | ⟨i, b, h, hi⟩ | ⟨sp, i, h⟩ | ⟨h, he⟩ | h :=
    portStep_cases s e
  · exact .inl ⟨x, he, h⟩
  case inr.inr.inr.inr.inr.inl => exact .inr (.inl ⟨i, b, hi, h⟩)
  case inr.inr.inr.inr.inr.inr.inr.inl => exact .inr (.inr (.inl ⟨he, h⟩))
  all_goals exact .inr (.inr (.inr (by rw [h]; rfl)))

/-- A command is ignored in Failed and acts elsewhere (R249). -/
theorem unlessFailed_cases (s : State) (act : State → State) :
    (s.wst = .failed ∧ unlessFailed s act = s) ∨ (s.wst ≠ .failed ∧ unlessFailed s act = act s) := by
  by_cases h : s.wst = .failed
  · exact .inl ⟨h, unlessFailed_of_eq h act⟩
  · exact .inr ⟨h, unlessFailed_of_ne h act⟩

/-! ### The shared updates -/

theorem State.Inv.of_sameCore {s t : State} (h : s.Inv) (e : s.SameCore t) : t.Inv := by
  rw [e]
  exact { h with }

theorem inv_resetBlock {s : State} (h : s.src.wf) : (resetBlock s).Inv where
  notBusy := rfl
  seeking _ := ⟨rfl, rfl, rfl⟩
  walking := nofun
  located := nofun
  exhaustedCause := nofun
  failedCause := nofun
  causeEnds hc := absurd rfl hc
  failedOut := nofun
  outLen := nofun
  framesFit := nofun
  countZero _ := rfl
  srcWf := h
  frameWf := ⟨.nil, nofun⟩
  audioWf := ⟨.nil, nofun⟩
  pixelWf := ⟨.nil, nofun⟩

theorem inv_startPass {s : State} (h : s.Inv) : (startPass s).Inv :=
  { h with
    seeking := fun _ => ⟨rfl, rfl, rfl⟩
    walking := nofun
    located := nofun
    exhaustedCause := nofun
    failedCause := nofun
    causeEnds := fun hc => absurd rfl hc
    failedOut := nofun
    outLen := nofun
    framesFit := nofun
    countZero := fun _ => rfl }

theorem inv_raise {x : Cause} {s : State} (h : s.Inv) (hx : x ≠ .clear) : (raise x s).Inv :=
  { h with
    seeking := by cases x <;> simp [Cause.endState]
    walking := by cases x <;> simp [Cause.endState]
    exhaustedCause := by cases x <;> simp [Cause.endState]
    failedCause := by cases x <;> simp_all [Cause.endState]
    causeEnds := by cases x <;> simp [Cause.endState]
    failedOut := fun _ => ⟨rfl, rfl⟩
    outLen := nofun }

theorem stride_bounds (v : Variant) : 19600 ≤ v.stride ∧ v.stride ≤ 19760 := by
  cases v <;> decide

theorem inv_setFrame {s : State} (h : s.Inv) {bs : List Byte} (hbs : bs.length ≤ frameBytesMax) :
    (s.setFrame bs).Inv :=
  { h with
    frameWf := ⟨Memory.writePrefix_wf h.frameWf.1 bs, Memory.writePrefix_within h.frameWf.2 hbs⟩ }

theorem inv_setDecoded {s : State} (h : s.Inv) (hf : s.wst ≠ .failed) {audio pixels : List Byte}
    (ha : audio.length = 1960 ∨ audio.length = 1976) (hp : pixels.length = pixBytes) :
    (s.setDecoded audio pixels).Inv :=
  { h with
    failedOut := fun hw => absurd hw hf
    outLen := fun _ => by rcases ha with ha | ha <;> simp [ha]
    audioWf := ⟨Memory.writePrefix_wf h.audioWf.1 audio,
      Memory.writePrefix_within h.audioWf.2 (by simp only [audioBytesMax]; omega)⟩
    pixelWf := ⟨Memory.writePrefix_wf h.pixelWf.1 pixels, Memory.writePrefix_within h.pixelWf.2 hp.le⟩ }

theorem inv_hopMissed {s : State} (h : s.Inv) (hw : s.wst = .locked) : (hopMissed s).Inv :=
  { h with
    seeking := nofun
    walking := fun _ => h.walking (.inl hw)
    exhaustedCause := nofun
    failedCause := nofun
    causeEnds := fun hc => absurd (h.walking (.inl hw)).2.2 hc
    failedOut := nofun }

theorem inv_clearEmit {s : State} (h : s.Inv) : (clearEmit s).Inv :=
  { h with failedOut := fun hw => ⟨rfl, (h.failedOut hw).2⟩ }

theorem inv_clearOut {s : State} (h : s.Inv) : (clearOut s).Inv :=
  { h with
    failedOut := fun hw => ⟨(h.failedOut hw).1, rfl⟩
    outLen := nofun }

end Sys2Proof.Machine
end

section
/-! PROOF. Accepting a frame keeps the invariants of R37, and so does every command, every host access and every step. -/

namespace Sys2Proof.Machine

/-! ### Accepting a frame -/

/-- Where the walker may locate its next frame: in Seeking from `START` on, in Locked and Resyncing from `EXPECTED` on
(R194 to R196). -/
def State.MayLocate (s : State) (p : Nat) : Prop :=
  (s.wst = .seeking ∧ s.start.toNat ≤ p) ∨ ((s.wst = .locked ∨ s.wst = .resyncing) ∧ s.expected.toNat ≤ p)

/-- One WSTEP accepts a frame where it may, or does nothing of the kind. -/
theorem walkStep_outcomes (s : State) :
    (∃ p v d, walkStep s = accept p v d s ∧ s.MayLocate p ∧ v ∈ s.cfg.data.priority
      ∧ p + v.stride ≤ s.srcLen.toNat)
    ∨ (walkStep s = hopMissed s ∧ s.wst = .locked)
    ∨ (∃ x, walkStep s = raise x s ∧ x ≠ .clear)
    ∨ walkStep s = clearEmit s
    ∨ walkStep s = s := by
  obtain ⟨p, v, d, h, hm, hfit, hpos⟩ | h | ⟨h, -⟩ | ⟨h, -⟩ | ⟨h, -⟩ | ⟨h, -⟩ := walkStep_cases s
  · refine .inl ⟨p, v, d, h, ?_, (classify_mem (markerAt_eq_some.1 hm).2).1, hfit⟩
    obtain ⟨hw, hp, -⟩ | ⟨hw, hp, -⟩ | ⟨hw, hp, -⟩ := hpos
    · exact .inl ⟨hw, hp⟩
    · exact .inr ⟨.inl hw, hp.ge⟩
    · exact .inr ⟨.inr hw, hp⟩
  · exact .inr (.inl h)
  · exact .inr (.inr (.inl ⟨_, h, nofun⟩))
  · exact .inr (.inr (.inl ⟨_, h, nofun⟩))
  · exact .inr (.inr (.inr (.inl h)))
  · exact .inr (.inr (.inr (.inr h)))

/-- `t` has located one frame more than `s`, inside the source: the first of the pass, at or after `START`, or one at or
after the end of the frame before it (R192, R202). -/
structure State.Located (s t : State) : Prop where
  valid : t.curValid = true
  counted : t.count.toNat = s.count.toNat + 1
  srcLen : t.srcLen = s.srcLen
  inside : t.curOff.toNat + t.curVar.stride ≤ s.srcLen.toNat
  order : (s.curValid = false ∧ s.start.toNat ≤ t.curOff.toNat)
    ∨ (s.curValid = true ∧ s.curOff.toNat + s.curVar.stride ≤ t.curOff.toNat)

/-- `t` holds the same frames as `s`: as many of them, the same newest one, in a source of the same length. -/
def State.SameFrames (s t : State) : Prop :=
  t.curValid = s.curValid ∧ t.count = s.count ∧ t.curOff = s.curOff ∧ t.curVar = s.curVar ∧ t.srcLen = s.srcLen

/-- I8 of the state alone, whether or not a frame has been located: it keeps `COUNT` far below its wrap (R23). -/
theorem State.Inv.framesFit_expected {s : State} (h : s.Inv) : s.count.toNat * 19600 ≤ s.expected.toNat := by
  cases hv : s.curValid with
  | true => exact h.framesFit hv
  | false => simp [h.countZero hv]

/-- The frames counted so far fit below the offset of the next one (I8). -/
theorem State.Inv.framesFit_next {s : State} (h : s.Inv) {p : Nat} (hp : s.MayLocate p) :
    s.count.toNat * 19600 ≤ p := by
  obtain ⟨hw, -⟩ | ⟨-, hp⟩ := hp
  · simp [(h.seeking hw).1]
  · exact h.framesFit_expected.trans hp

theorem toNat_accept_curOff {s : State} {p : Nat} {v : Variant} (h : p + v.stride ≤ s.srcLen.toNat) (d : Nat) :
    (accept p v d s).curOff.toNat = p := by
  have := s.srcLen.isLt
  rw [accept_curOff, BitVec.toNat_ofNat, Nat.mod_eq_of_lt (by omega)]

theorem toNat_accept_expected {s : State} {p : Nat} {v : Variant} (h : p + v.stride ≤ s.srcLen.toNat) (d : Nat) :
    (accept p v d s).expected.toNat = p + v.stride := by
  have := s.srcLen.isLt
  rw [accept_expected, BitVec.toNat_ofNat, Nat.mod_eq_of_lt (by omega)]

theorem State.Inv.toNat_accept_count {s : State} (h : s.Inv) (p : Nat) (v : Variant) (d : Nat) :
    (accept p v d s).count.toNat = s.count.toNat + 1 := by
  have := h.framesFit_expected
  have := s.expected.isLt
  rw [accept_count, BitVec.toNat_add_of_lt (by simp; omega)]
  rfl

theorem located_accept {s : State} (h : s.Inv) {p : Nat} {v : Variant} (d : Nat) (hp : s.MayLocate p)
    (hfit : p + v.stride ≤ s.srcLen.toNat) : s.Located (accept p v d s) where
  valid := rfl
  counted := h.toNat_accept_count p v d
  srcLen := rfl
  inside := by rw [toNat_accept_curOff hfit]; exact hfit
  order := by
    rw [toNat_accept_curOff hfit]
    obtain ⟨hw, hp⟩ | ⟨hw, hp⟩ := hp
    · exact .inl ⟨(h.seeking hw).2.1, hp⟩
    · have hv := (h.walking hw).1
      exact .inr ⟨hv, (h.located hv).1 ▸ hp⟩

theorem inv_accept {s : State} (h : s.Inv) {p : Nat} {v : Variant} (d : Nat) (hp : s.MayLocate p)
    (hv : v ∈ s.cfg.data.priority) (hfit : p + v.stride ≤ s.srcLen.toNat) : (accept p v d s).Inv :=
  have hcount := h.toNat_accept_count p v d
  have hcause : s.cause = .clear := hp.elim (fun hp => (h.seeking hp.1).2.2) fun hp => (h.walking hp.1).2.2
  { h with
    seeking := nofun
    walking := fun _ => ⟨rfl, by omega, hcause⟩
    located := fun _ => by
      rw [toNat_accept_curOff hfit, toNat_accept_expected hfit]
      exact ⟨rfl, hfit, by simp [alignedAt, sector, Bool.beq_eq_decide_eq], hv⟩
    exhaustedCause := nofun
    failedCause := nofun
    causeEnds := fun hc => absurd hcause hc
    failedOut := nofun
    framesFit := fun _ => by
      rw [toNat_accept_expected hfit, hcount, Nat.add_mul, Nat.one_mul]
      exact Nat.add_le_add (h.framesFit_next hp) (stride_bounds v).1
    countZero := nofun }

/-! ### The commands -/

theorem inv_walkStep {s : State} (h : s.Inv) : (walkStep s).Inv := by
  obtain ⟨p, v, d, e, hp, hv, hfit⟩ | ⟨e, hw⟩ | ⟨x, e, hx⟩ | e | e := walkStep_outcomes s <;> rw [e]
  · exact inv_accept h d hp hv hfit
  · exact inv_hopMissed h hw
  · exact inv_raise h hx
  · exact inv_clearEmit h
  · exact h

theorem inv_walkUntil_two {s : State} (h : s.Inv) : (walkUntil 2 s).Inv := by
  obtain e | ⟨-, -, e⟩ := walkUntil_cases s <;> rw [e]
  · exact inv_walkStep h
  · exact inv_walkStep (inv_walkStep h)

theorem inv_fetchStep {s : State} (h : s.Inv) : (fetchStep s).Inv := by
  obtain ⟨w, hw, -, e⟩ | ⟨-, -, e⟩ | ⟨-, e⟩ := fetchStep_cases s <;> rw [e]
  · exact inv_setFrame h (length_of_memRead hw ▸ (stride_bounds _).2)
  · exact inv_raise h nofun
  · exact inv_raise h nofun

theorem stride_div_ten (v : Variant) : v.stride / 10 = 1960 ∨ v.stride / 10 = 1976 := by
  cases v <;> decide

theorem inv_decodeStep {s : State} (h : s.Inv) (hf : s.wst ≠ .failed) (v : Variant) : (decodeStep v s).Inv := by
  obtain ⟨hlen, e⟩ | ⟨-, e⟩ := decodeStep_cases v s <;> rw [e]
  · exact inv_setDecoded h hf (by simpa [hlen] using stride_div_ten v) (length_pixelsOf ..)
  · exact inv_raise h nofun

theorem inv_unlessFailed {s : State} {act : State → State} (h : s.Inv) (ha : s.wst ≠ .failed → (act s).Inv) :
    (unlessFailed s act).Inv := by
  obtain ⟨-, e⟩ | ⟨hf, e⟩ := unlessFailed_cases s act <;> rw [e]
  · exact h
  · exact ha hf

theorem inv_deliver {s : State} (h : s.Inv) : (deliver s).Inv :=
  inv_unlessFailed (inv_fetchStep h) fun hf => inv_decodeStep (inv_fetchStep h) hf _

/-- NEXT ends in Exhausted, delivers the frame its WSTEPs emitted, or delivers none (R200). -/
theorem nextStep_cases (s : State) :
    (s.wst = .exhausted ∧ nextStep s = clearOut (clearEmit s))
    ∨ nextStep s = deliver (walkUntil 2 s)
    ∨ nextStep s = clearOut (walkUntil 2 s) := by
  unfold nextStep
  split
  · exact .inl ⟨‹_›, rfl⟩
  · split
    · exact .inr (.inl rfl)
    · exact .inr (.inr rfl)

theorem inv_nextStep {s : State} (h : s.Inv) : (nextStep s).Inv := by
  obtain ⟨-, e⟩ | e | e := nextStep_cases s <;> rw [e]
  · exact inv_clearOut (inv_clearEmit h)
  · exact inv_deliver (inv_walkUntil_two h)
  · exact inv_clearOut (inv_walkUntil_two h)

theorem inv_exec {i : Instr} {s t : State} (h : s.Inv) (he : exec i s = .next t) : t.Inv := by
  cases i with
  | nop => cases he; exact h
  | init => cases he; exact inv_startPass h
  | probe => cases he; exact inv_unlessFailed h fun _ => h.of_sameCore (sameCore_probeStep s)
  | matchV v => cases he; exact inv_unlessFailed h fun _ => h.of_sameCore (sameCore_matchStep v s)
  | locate => cases he; exact inv_unlessFailed h fun _ => h.of_sameCore (sameCore_locateStep s)
  | fetch => cases he; exact inv_unlessFailed h fun _ => inv_fetchStep h
  | decodeV v => cases he; exact inv_unlessFailed h fun hf => inv_decodeStep h hf v
  | wstep => cases he; exact inv_unlessFailed h fun _ => inv_walkStep h
  | next => cases he; exact inv_unlessFailed h fun _ => inv_nextStep h

/-! ### The host port and the step -/

theorem inv_setSrcLen {s : State} (h : s.Inv) {x : Word} (hx : s.curValid = true → x = s.srcLen) :
    State.Inv { s with srcLen := x } :=
  { h with located := fun hv => by rw [hx hv]; exact h.located hv }

theorem inv_writeFrame {s : State} (h : s.Inv) {i : Nat} (hi : i < frameBytesMax) (b : Byte) :
    State.Inv { s with frame := s.frame.write i b } :=
  { h with frameWf := ⟨Memory.write_wf h.frameWf.1 i b, Memory.write_within h.frameWf.2 hi b⟩ }

theorem inv_portStep {s : State} (h : s.Inv) {e : PortEvent}
    (hx : ∀ x, e = .write .reg 0x03 x → s.curValid = true → x = s.srcLen) : (portStep s e).Inv := by
  obtain ⟨x, he, hs⟩ | ⟨i, b, hi, hs⟩ | ⟨-, hs⟩ | hs := portStep_core s e
  · rw [hs]; exact inv_setSrcLen h (hx x he)
  · rw [hs]; exact inv_writeFrame h hi b
  · rw [hs]; exact inv_resetBlock h.srcWf
  · exact h.of_sameCore hs

theorem inv_step {s t : State} (h : s.Inv) (hk : s.HostKeepsSource) (ht : step s = .next t) : t.Inv := by
  obtain ⟨-, rfl⟩ | ⟨e, rest, hp, -, hstep⟩ := step_cases ht
  · exact h
  have hs : (s.withPort rest).Inv := h.of_sameCore (sameCore_withPort s rest)
  obtain ⟨b, i, -, -, hi⟩ | ⟨b, r, -, -, rfl⟩ | ⟨-, rfl⟩ := hstep
  · exact inv_exec hs hi
  · exact inv_unlessFailed hs fun _ => inv_raise hs nofun
  · exact inv_portStep hs fun x he hv => hk x rest (he ▸ hp) hv

/-- Settles O51: what a step can do is said by `step_cases`, and each of it keeps `State.Inv`; the host's duty is what
the write of `SRC_LEN` needs. -/
theorem everyStepKeepsTheInvariants : Obligations.EveryStepKeepsTheInvariants :=
  fun _ _ h hk ht => inv_step h hk ht

/-- Settles O50: State.reset is what the reset input makes of it, and that has the invariants in any source. -/
theorem resetKeepsTheInvariants : Obligations.ResetKeepsTheInvariants :=
  inv_resetBlock (s := State.reset) reset_wf.1

end Sys2Proof.Machine
end

section
/-! PROOF. I8 of R37 along a step: a step begins the record again, leaves it as it is, or adds one frame behind the
others and inside the source. -/

namespace Sys2Proof.Machine

/-! ### Which frames a command leaves located -/

/-- From `s` to `t` at most one frame more has been located, and none forgotten. -/
def State.KeepsFrames (s t : State) : Prop := s.SameFrames t ∨ s.Located t

theorem State.SameFrames.trans {s t u : State} (h : s.SameFrames t) (h' : t.SameFrames u) : s.SameFrames u := by
  obtain ⟨hv, hc, ho, hw, hl⟩ := h
  obtain ⟨hv', hc', ho', hw', hl'⟩ := h'
  exact ⟨hv'.trans hv, hc'.trans hc, ho'.trans ho, hw'.trans hw, hl'.trans hl⟩

theorem State.Located.sameFrames {s t u : State} (h : s.Located t) (h' : t.SameFrames u) : s.Located u := by
  obtain ⟨hv, hc, ho, hw, hl⟩ := h'
  exact ⟨hv.trans h.valid, hc ▸ h.counted, hl.trans h.srcLen, ho ▸ hw ▸ h.inside, ho ▸ h.order⟩

theorem State.KeepsFrames.sameFrames {s t u : State} (h : s.KeepsFrames t) (h' : t.SameFrames u) : s.KeepsFrames u :=
  h.imp (·.trans h') (·.sameFrames h')

/-- A missed hop moves nothing that says where a frame may be located. -/
theorem keepsFrames_of_hopMissed {s t : State} (h : (hopMissed s).KeepsFrames t) : s.KeepsFrames t :=
  h.imp id fun h => ⟨h.valid, h.counted, h.srcLen, h.inside, h.order⟩

/-- What the host still has to do says nothing of the frames. -/
theorem keepsFrames_of_withPort {s t : State} {rest : List PortEvent} (h : (s.withPort rest).KeepsFrames t) :
    s.KeepsFrames t :=
  h.imp id fun h => ⟨h.valid, h.counted, h.srcLen, h.inside, h.order⟩

@[refl, simp] theorem sameFrames_refl (s : State) : s.SameFrames s := ⟨rfl, rfl, rfl, rfl, rfl⟩

theorem State.SameFrames.of_sameCore {s t : State} (e : s.SameCore t) : s.SameFrames t := by
  rw [e]
  exact ⟨rfl, rfl, rfl, rfl, rfl⟩

@[simp] theorem sameFrames_raise (x : Cause) (s : State) : s.SameFrames (raise x s) := ⟨rfl, rfl, rfl, rfl, rfl⟩

@[simp] theorem sameFrames_setFrame (s : State) (bs : List Byte) : s.SameFrames (s.setFrame bs) :=
  ⟨rfl, rfl, rfl, rfl, rfl⟩

@[simp] theorem sameFrames_setDecoded (s : State) (audio pixels : List Byte) :
    s.SameFrames (s.setDecoded audio pixels) := ⟨rfl, rfl, rfl, rfl, rfl⟩

@[simp] theorem sameFrames_hopMissed (s : State) : s.SameFrames (hopMissed s) := ⟨rfl, rfl, rfl, rfl, rfl⟩

@[simp] theorem sameFrames_clearEmit (s : State) : s.SameFrames (clearEmit s) := ⟨rfl, rfl, rfl, rfl, rfl⟩

@[simp] theorem sameFrames_clearOut (s : State) : s.SameFrames (clearOut s) := ⟨rfl, rfl, rfl, rfl, rfl⟩

theorem sameFrames_unlessFailed {s : State} {act : State → State} (h : s.SameFrames (act s)) :
    s.SameFrames (unlessFailed s act) := by
  obtain ⟨-, e⟩ | ⟨-, e⟩ := unlessFailed_cases s act <;> rw [e]
  exact h

theorem sameFrames_fetchStep (s : State) : s.SameFrames (fetchStep s) := by
  obtain ⟨w, -, -, e⟩ | ⟨-, -, e⟩ | ⟨-, e⟩ := fetchStep_cases s <;> simp [e]

theorem sameFrames_decodeStep (v : Variant) (s : State) : s.SameFrames (decodeStep v s) := by
  obtain ⟨-, e⟩ | ⟨-, e⟩ := decodeStep_cases v s <;> simp [e]

theorem sameFrames_deliver (s : State) : s.SameFrames (deliver s) :=
  (sameFrames_fetchStep s).trans (sameFrames_unlessFailed (sameFrames_decodeStep _ _))

theorem keepsFrames_walkStep {s : State} (h : s.Inv) : s.KeepsFrames (walkStep s) := by
  obtain ⟨p, v, d, e, hp, -, hfit⟩ | ⟨e, -⟩ | ⟨x, e, -⟩ | e | e := walkStep_outcomes s <;> rw [e]
  · exact .inr (located_accept h d hp hfit)
  all_goals exact .inl (by simp)

/-- Two WSTEPs of one NEXT locate one frame at most: the first of them missed its hop. -/
theorem keepsFrames_walkUntil_two {s : State} (h : s.Inv) : s.KeepsFrames (walkUntil 2 s) := by
  obtain e | ⟨hw, hmiss, e⟩ := walkUntil_cases s <;> rw [e]
  · exact keepsFrames_walkStep h
  · rw [hmiss]
    exact keepsFrames_of_hopMissed (keepsFrames_walkStep (inv_hopMissed h hw))

theorem keepsFrames_nextStep {s : State} (h : s.Inv) : s.KeepsFrames (nextStep s) := by
  obtain ⟨-, e⟩ | e | e := nextStep_cases s <;> rw [e]
  · exact .inl ((sameFrames_clearEmit s).trans (sameFrames_clearOut _))
  · exact (keepsFrames_walkUntil_two h).sameFrames (sameFrames_deliver _)
  · exact (keepsFrames_walkUntil_two h).sameFrames (sameFrames_clearOut _)

theorem keepsFrames_unlessFailed {s : State} {act : State → State} (h : s.KeepsFrames (act s)) :
    s.KeepsFrames (unlessFailed s act) := by
  obtain ⟨-, e⟩ | ⟨-, e⟩ := unlessFailed_cases s act <;> rw [e]
  · exact .inl (sameFrames_refl s)
  · exact h

/-- Every command but INIT keeps the located frames. -/
theorem keepsFrames_exec {i : Instr} {s t : State} (h : s.Inv) (he : exec i s = .next t) (hi : i ≠ .init) :
    s.KeepsFrames t := by
  cases i with
  | nop => cases he; exact .inl (sameFrames_refl s)
  | init => exact absurd rfl hi
  | probe => cases he; exact .inl (sameFrames_unlessFailed (.of_sameCore (sameCore_probeStep s)))
  | matchV v => cases he; exact .inl (sameFrames_unlessFailed (.of_sameCore (sameCore_matchStep v s)))
  | locate => cases he; exact .inl (sameFrames_unlessFailed (.of_sameCore (sameCore_locateStep s)))
  | fetch => cases he; exact .inl (sameFrames_unlessFailed (sameFrames_fetchStep s))
  | decodeV v => cases he; exact .inl (sameFrames_unlessFailed (sameFrames_decodeStep v s))
  | wstep => cases he; exact keepsFrames_unlessFailed (keepsFrames_walkStep h)
  | next => cases he; exact keepsFrames_unlessFailed (keepsFrames_nextStep h)

/-- A host access keeps the frames, a reset forgets them; here the host's duty of R279 is needed. -/
theorem sameFrames_portStep {s : State} {e : PortEvent}
    (hx : ∀ x, e = .write .reg 0x03 x → s.curValid = true → x = s.srcLen) (hv : (portStep s e).curValid = true) :
    s.SameFrames (portStep s e) := by
  obtain ⟨x, he, hs⟩ | ⟨i, b, -, hs⟩ | ⟨-, hs⟩ | hs := portStep_core s e
  · rw [hs] at hv ⊢
    exact ⟨rfl, rfl, rfl, rfl, hx x he hv⟩
  · rw [hs]
    exact ⟨rfl, rfl, rfl, rfl, rfl⟩
  · rw [hs] at hv
    cases hv
  · exact .of_sameCore hs

/-- A step after which a frame stands located has kept the frames before it. -/
theorem keepsFrames_step {s t : State} (h : s.Inv) (hk : s.HostKeepsSource) (ht : step s = .next t)
    (hv : t.curValid = true) : s.KeepsFrames t := by
  obtain ⟨-, rfl⟩ | ⟨e, rest, hp, -, hstep⟩ := step_cases ht
  · exact .inl (sameFrames_refl _)
  have hs : (s.withPort rest).Inv := h.of_sameCore (sameCore_withPort s rest)
  refine keepsFrames_of_withPort (rest := rest) ?_
  obtain ⟨b, i, -, -, hi⟩ | ⟨b, r, -, -, rfl⟩ | ⟨-, rfl⟩ := hstep
  · exact keepsFrames_exec hs hi (by rintro rfl; cases hi; cases hv)
  · exact .inl (sameFrames_unlessFailed (sameFrames_raise _ _))
  · exact .inl (sameFrames_portStep (fun x he hv => hk x rest (he ▸ hp) hv) hv)

/-! ### The record -/

/-- Where no frame is located the empty record fits. -/
theorem fits_empty {t : State} (h : t.Inv) (hv : t.curValid = false) : Walk.Fits ⟨t.start.toNat, []⟩ t where
  counted := by simp [h.countZero hv]
  fresh _ := rfl
  newest hv' := by simp [hv] at hv'
  apart := .nil
  inside := nofun
  sum := Nat.zero_le _

namespace Walk.Fits

theorem of_sameFrames {w : Walk} {s t : State} (h : w.Fits s) (hst : s.SameFrames t) (hv : t.curValid = true) :
    w.Fits t := by
  obtain ⟨hvalid, hcount, hoff, hvar, hlen⟩ := hst
  exact
    { counted := hcount ▸ h.counted
      fresh := fun hv' => by simp [hv] at hv'
      newest := fun hv' => hoff ▸ hvar ▸ h.newest (hvalid ▸ hv')
      apart := h.apart
      inside := hlen ▸ h.inside
      sum := hlen ▸ h.sum }

/-- A frame located after `s` begins at or after the end of every frame of the record, and not before the record's
start. -/
theorem below_located {w : Walk} {s t : State} (h : w.Fits s) (hst : s.Located t) :
    w.start ≤ t.curOff.toNat ∧ ∀ f ∈ w.frames, f.1 + f.2.stride ≤ t.curOff.toNat := by
  obtain ⟨hv, hpos⟩ | ⟨hv, hpos⟩ := hst.order
  · rw [h.fresh hv]
    exact ⟨hpos, nofun⟩
  · obtain ⟨older, hw⟩ := List.head?_eq_some_iff.1 (h.newest hv)
    have hstart := (h.inside (s.curOff.toNat, s.curVar) (by simp [hw])).1
    have hapart := (List.pairwise_cons.1 (hw ▸ h.apart)).1
    refine ⟨by omega, fun f hf => ?_⟩
    obtain rfl | hf := List.mem_cons.1 (hw ▸ hf)
    · exact hpos
    · have := hapart f hf
      omega

theorem cons_located {w : Walk} {s t : State} (h : w.Fits s) (hst : s.Located t) :
    Walk.Fits ⟨w.start, (t.curOff.toNat, t.curVar) :: w.frames⟩ t := by
  obtain ⟨hstart, hbelow⟩ := h.below_located hst
  have hapart : ((t.curOff.toNat, t.curVar) :: w.frames).Pairwise
      fun newer older => older.1 + older.2.stride ≤ newer.1 := List.pairwise_cons.2 ⟨hbelow, h.apart⟩
  have hinside : ∀ f ∈ (t.curOff.toNat, t.curVar) :: w.frames,
      w.start ≤ f.1 ∧ f.1 + f.2.stride ≤ t.srcLen.toNat :=
    List.forall_mem_cons.2 ⟨⟨hstart, hst.srcLen ▸ hst.inside⟩, hst.srcLen ▸ h.inside⟩
  have hsum := add_strideSum_le hapart fun f hf => (hinside f hf).1
  have hend := (hinside _ (List.mem_cons_self ..)).2
  exact
    { counted := by rw [hst.counted, ← h.counted]; rfl
      fresh := fun hv => by simp [hst.valid] at hv
      newest := fun _ => rfl
      apart := hapart
      inside := hinside
      sum := Nat.le_sub_of_add_le' (hsum.trans hend) }

/-- I8 along a step: the observer's record fits again. -/
theorem after_step {w : Walk} {s t : State} (h : w.Fits s) (hs : s.Inv) (hk : s.HostKeepsSource)
    (ht : step s = .next t) : (w.after s t).Fits t := by
  cases hv : t.curValid with
  | false => rw [after_of_not_valid hv]; exact fits_empty (inv_step hs hk ht) hv
  | true =>
    obtain hst | hst := keepsFrames_step hs hk ht hv
    · rw [after_of_same_count hv hst.2.1]
      exact h.of_sameFrames hst hv
    · have hcount : t.count ≠ s.count := fun hc => by
        have := hst.counted
        rw [hc] at this
        omega
      rw [after_of_located hv hcount]
      exact h.cons_located hst

end Walk.Fits

theorem Walk.start_after (w : Walk) (s t : State) :
    (w.after s t).start = t.start.toNat ∨ (w.after s t).start = w.start := by
  unfold Walk.after
  split
  · exact .inl rfl
  · split <;> exact .inr rfl

/-- Settles O60: the record fits after the step (`Walk.Fits.after_step`), and where `START` has not moved the record's
start is the register. -/
theorem locatedFramesFitTheSource : Obligations.LocatedFramesFitTheSource := by
  intro s t w hs hw hk ht
  have hfits := hw.after_step hs hk ht
  refine ⟨hfits, fun hstart hsame => ?_⟩
  have hafter : (w.after s t).start = t.start.toNat := by
    obtain e | e := w.start_after s t
    · exact e
    · rw [e, hstart, hsame]
  exact hafter ▸ hfits.sum

/-- Settles O59: at reset no frame is located. -/
theorem noFramesAtReset : Obligations.NoFramesAtReset :=
  fits_empty resetKeepsTheInvariants rfl

end Sys2Proof.Machine
end

section
/-! PROOF. What a step leaves of the outputs (R32, R33) and of a cause (R30, R190, R246, R249). -/

namespace Sys2Proof.Machine

/-! ### The command byte of an event -/

theorem truncate_eq_extractLsb (data : Word) : data.truncate 8 = data.extractLsb' 0 8 := by
  ext i hi
  simp

/-- An event starts a command exactly if it writes `CMD`, and the command byte is bits 7:0 of the word (R24). -/
theorem commandByte?_eq_some {e : PortEvent} {b : Byte} (h : e.commandByte? = some b) :
    ∃ data : Word, e = .write .reg 0x00 data ∧ b = data.extractLsb' 0 8 := by
  unfold PortEvent.commandByte? at h
  split at h
  · rename_i index data
    split at h
    · subst index
      exact ⟨data, rfl, (Option.some.inj h).symm.trans (truncate_eq_extractLsb data)⟩
    · cases h
  · cases h

/-! ### The outputs -/

/-- `t` holds the decoded frame that `s` holds, as far as bytes and their number go. -/
def State.SameOutputs (s t : State) : Prop :=
  t.audio = s.audio ∧ t.pixel = s.pixel ∧ t.audioLen = s.audioLen

@[refl, simp] theorem sameOutputs_refl (s : State) : s.SameOutputs s := ⟨rfl, rfl, rfl⟩

theorem State.SameOutputs.of_sameCore {s t : State} (e : s.SameCore t) : s.SameOutputs t := by
  rw [e]
  exact ⟨rfl, rfl, rfl⟩

theorem sameOutputs_unlessFailed {s : State} {act : State → State} (h : s.SameOutputs (act s)) :
    s.SameOutputs (unlessFailed s act) := by
  obtain ⟨-, e⟩ | ⟨-, e⟩ := unlessFailed_cases s act <;> rw [e]
  exact h

theorem sameOutputs_fetchStep (s : State) : s.SameOutputs (fetchStep s) := by
  obtain ⟨w, -, -, e⟩ | ⟨-, -, e⟩ | ⟨-, e⟩ := fetchStep_cases s <;> rw [e] <;> exact ⟨rfl, rfl, rfl⟩

theorem sameOutputs_walkStep (s : State) : s.SameOutputs (walkStep s) := by
  obtain ⟨p, v, d, e, -⟩ | ⟨e, -⟩ | ⟨x, e, -⟩ | e | e := walkStep_outcomes s <;> rw [e] <;> exact ⟨rfl, rfl, rfl⟩

theorem sameOutputs_exec {i : Instr} {s t : State} (he : exec i s = .next t) (hn : i ≠ .next)
    (hd : ∀ v, i ≠ .decodeV v) : s.SameOutputs t := by
  cases i with
  | nop => cases he; rfl
  | init => cases he; exact ⟨rfl, rfl, rfl⟩
  | probe => cases he; exact sameOutputs_unlessFailed (.of_sameCore (sameCore_probeStep s))
  | matchV v => cases he; exact sameOutputs_unlessFailed (.of_sameCore (sameCore_matchStep v s))
  | locate => cases he; exact sameOutputs_unlessFailed (.of_sameCore (sameCore_locateStep s))
  | fetch => cases he; exact sameOutputs_unlessFailed (sameOutputs_fetchStep s)
  | decodeV v => exact absurd rfl (hd v)
  | wstep => cases he; exact sameOutputs_unlessFailed (sameOutputs_walkStep s)
  | next => exact absurd rfl hn

theorem sameOutputs_portStep {s : State} {e : PortEvent} (he : e ≠ .reset) : s.SameOutputs (portStep s e) := by
  obtain ⟨x, -, h⟩ | ⟨i, b, -, h⟩ | ⟨hr, -⟩ | h := portStep_core s e
  · rw [h]; exact ⟨rfl, rfl, rfl⟩
  · rw [h]; exact ⟨rfl, rfl, rfl⟩
  · exact absurd hr he
  · exact .of_sameCore h

/-- A step keeps the outputs, or takes the reset input or a DECODE or NEXT byte. -/
theorem sameOutputs_step {s t : State} (h : step s = .next t) :
    s.SameOutputs t ∨ ∃ rest, s.port = .reset :: rest
      ∨ ∃ data, s.port = .write .reg 0x00 data :: rest
          ∧ (decode (data.extractLsb' 0 8) = .ok .next ∨ ∃ v, decode (data.extractLsb' 0 8) = .ok (.decodeV v)) := by
  obtain ⟨-, rfl⟩ | ⟨e, rest, hp, -, ⟨b, i, hb, hdec, he⟩ | ⟨b, r, -, -, rfl⟩ | ⟨-, rfl⟩⟩ := step_cases h
  · exact .inl (sameOutputs_refl _)
  · obtain ⟨data, rfl, rfl⟩ := commandByte?_eq_some hb
    by_cases hn : i = .next
    · exact .inr ⟨rest, .inr ⟨data, hp, .inl (hn ▸ hdec)⟩⟩
    · by_cases hd : ∃ v, i = .decodeV v
      · obtain ⟨v, rfl⟩ := hd
        exact .inr ⟨rest, .inr ⟨data, hp, .inr ⟨v, hdec⟩⟩⟩
      · exact .inl (sameOutputs_exec (s := s.withPort rest) he hn (not_exists.1 hd))
  · exact .inl (sameOutputs_unlessFailed (s := s.withPort rest) ⟨rfl, rfl, rfl⟩)
  · by_cases hr : e = .reset
    · exact .inr ⟨rest, .inl (hr ▸ hp)⟩
    · exact .inl (sameOutputs_portStep (s := s.withPort rest) hr)

/-- Settles O53: a step that keeps the outputs changes none of the three. -/
theorem outputsWrittenByDecodeAndNextOnly : Obligations.OutputsWrittenByDecodeAndNextOnly := by
  intro s t h hchanged
  obtain ⟨haudio, hpixel, hlen⟩ | hevent := sameOutputs_step h
  · exact absurd hchanged (by simp [haudio, hpixel, hlen])
  · exact hevent

/-! ### The cause -/

/-- `t` holds the cause and the walker state of `s`, or a fatal cause has taken the place of Exhausted (R246, R249). -/
def State.KeepsCause (s t : State) : Prop :=
  (t.cause = s.cause ∧ t.wst = s.wst)
    ∨ (s.cause = .exhausted ∧ t.wst = .failed ∧ t.cause ≠ .clear ∧ t.cause ≠ .exhausted)

@[refl, simp] theorem keepsCause_refl (s : State) : s.KeepsCause s := .inl ⟨rfl, rfl⟩

theorem State.KeepsCause.of_sameCore {s t : State} (e : s.SameCore t) : s.KeepsCause t := by
  rw [e]
  exact .inl ⟨rfl, rfl⟩

theorem keepsCause_raise {x : Cause} {s : State} (hc : s.cause = .exhausted) (hx : x ≠ .clear)
    (hx' : x ≠ .exhausted) : s.KeepsCause (raise x s) :=
  .inr ⟨hc, by cases x <;> simp_all [Cause.endState], hx, hx'⟩

theorem keepsCause_fetchStep {s : State} (hc : s.cause = .exhausted) : s.KeepsCause (fetchStep s) := by
  obtain ⟨w, -, -, e⟩ | ⟨-, -, e⟩ | ⟨-, e⟩ := fetchStep_cases s <;> rw [e]
  · exact .inl ⟨rfl, rfl⟩
  · exact keepsCause_raise hc nofun nofun
  · exact keepsCause_raise hc nofun nofun

theorem keepsCause_decodeStep {s : State} (hc : s.cause = .exhausted) (v : Variant) :
    s.KeepsCause (decodeStep v s) := by
  obtain ⟨-, e⟩ | ⟨-, e⟩ := decodeStep_cases v s <;> rw [e]
  · exact .inl ⟨rfl, rfl⟩
  · exact keepsCause_raise hc nofun nofun

theorem keepsCause_walkStep {s : State} (hw : s.wst = .exhausted) : s.KeepsCause (walkStep s) := by
  rw [walkStep, hw]
  exact .inl ⟨rfl, rfl⟩

theorem keepsCause_nextStep {s : State} (hw : s.wst = .exhausted) : s.KeepsCause (nextStep s) := by
  rw [nextStep, if_pos hw]
  exact .inl ⟨rfl, rfl⟩

/-- In Failed a command is ignored, so that a cause need be followed in Exhausted only. -/
theorem keepsCause_unlessFailed {s : State} (h : s.Inv) (hc : s.cause ≠ .clear) {act : State → State}
    (ha : s.wst = .exhausted → s.cause = .exhausted → s.KeepsCause (act s)) :
    s.KeepsCause (unlessFailed s act) := by
  obtain ⟨-, e⟩ | ⟨hf, e⟩ := unlessFailed_cases s act <;> rw [e]
  have hw : s.wst = .exhausted := (h.causeEnds hc).resolve_right hf
  exact ha hw (h.exhaustedCause hw)

/-- No command but INIT clears a cause. -/
theorem keepsCause_exec {i : Instr} {s t : State} (h : s.Inv) (hc : s.cause ≠ .clear) (he : exec i s = .next t)
    (hi : i ≠ .init) : s.KeepsCause t := by
  cases i with
  | nop => cases he; rfl
  | init => exact absurd rfl hi
  | probe => cases he; exact keepsCause_unlessFailed h hc fun _ _ => .of_sameCore (sameCore_probeStep s)
  | matchV v => cases he; exact keepsCause_unlessFailed h hc fun _ _ => .of_sameCore (sameCore_matchStep v s)
  | locate => cases he; exact keepsCause_unlessFailed h hc fun _ _ => .of_sameCore (sameCore_locateStep s)
  | fetch => cases he; exact keepsCause_unlessFailed h hc fun _ hx => keepsCause_fetchStep hx
  | decodeV v => cases he; exact keepsCause_unlessFailed h hc fun _ hx => keepsCause_decodeStep hx v
  | wstep => cases he; exact keepsCause_unlessFailed h hc fun hw _ => keepsCause_walkStep hw
  | next => cases he; exact keepsCause_unlessFailed h hc fun hw _ => keepsCause_nextStep hw

theorem keepsCause_portStep {s : State} {e : PortEvent} (he : e ≠ .reset) : s.KeepsCause (portStep s e) := by
  obtain ⟨x, -, h⟩ | ⟨i, b, -, h⟩ | ⟨hr, -⟩ | h := portStep_core s e
  · rw [h]; exact .inl ⟨rfl, rfl⟩
  · rw [h]; exact .inl ⟨rfl, rfl⟩
  · exact absurd hr he
  · exact .of_sameCore h

/-- A step keeps a cause, or takes the reset input or INIT's byte. -/
theorem keepsCause_step {s t : State} (h : s.Inv) (hc : s.cause ≠ .clear) (ht : step s = .next t) :
    s.KeepsCause t ∨ ∃ rest, s.port = .reset :: rest
      ∨ ∃ data, s.port = .write .reg 0x00 data :: rest ∧ decode (data.extractLsb' 0 8) = .ok .init := by
  obtain ⟨-, rfl⟩ | ⟨e, rest, hp, -, hstep⟩ := step_cases ht
  · exact .inl (keepsCause_refl _)
  have hs : (s.withPort rest).Inv := h.of_sameCore (sameCore_withPort s rest)
  obtain ⟨b, i, hb, hdec, he⟩ | ⟨b, r, -, -, rfl⟩ | ⟨-, rfl⟩ := hstep
  · obtain ⟨data, rfl, rfl⟩ := commandByte?_eq_some hb
    by_cases hi : i = .init
    · exact .inr ⟨rest, .inr ⟨data, hp, hi ▸ hdec⟩⟩
    · exact .inl (keepsCause_exec (s := s.withPort rest) hs hc he hi)
  · exact .inl (keepsCause_unlessFailed (s := s.withPort rest) hs hc fun _ hx => keepsCause_raise hx nofun nofun)
  · by_cases hr : e = .reset
    · exact .inr ⟨rest, .inl (hr ▸ hp)⟩
    · exact .inl (keepsCause_portStep (s := s.withPort rest) hr)

/-- Settles O54: `keepsCause_step`, its three outcomes apart. -/
theorem causeIsSticky : Obligations.CauseIsSticky :=
  fun _ _ h ht hc => or_assoc.1 (keepsCause_step h hc ht)

end Sys2Proof.Machine
end

section
/-! PROOF. The reset values (R36), the events at the host port (R21, R22, R24, R38) and the codes of STATUS (R26). -/

namespace Sys2Proof.Machine

/-! ### Reset -/

theorem buffer_reset (k : Nat) (sp : Space) : { State.reset with draws := k }.buffer sp = [] := by
  cases sp <;> rfl

/-- A host read of a buffer byte that nothing has written gives the drawn value (U9). -/
theorem readBuffer_of_unwritten {s : State} {sp : Space} {i : Nat} (hi : i < sp.size)
    (h : Memory.read (s.buffer sp) i = none) : readBuffer s sp i = (Config.freeByte s.draws i).zeroExtend 32 := by
  rw [readBuffer, if_pos hi, h, Option.getD_none]

/-- Settles O1: the fields are those of `State.reset`; a buffer read finds no byte. -/
theorem resetStateValues : Obligations.ResetStateValues := by
  refine ⟨rfl, rfl, rfl, rfl, rfl, rfl, rfl, rfl, rfl, rfl, rfl, rfl, rfl, rfl, rfl, rfl, rfl, rfl, rfl, rfl, rfl, rfl,
    rfl, fun _ => ⟨rfl, rfl, rfl⟩, fun k i sp hsp hi => ?_⟩
  rw [hostRead_readData, if_neg hsp, readBuffer_of_unwritten hi (by rw [buffer_reset, Memory.read_nil])]

/-! ### Commands -/

/-- Settles O5: the event is a write to `CMD`, so its low byte is decoded and run. -/
theorem stepRunsTheDecodedCommand : Obligations.StepRunsTheDecodedCommand := by
  intro s rest data i hb hp hdec
  rw [step_take hb hp, takeEvent_command, truncate_eq_extractLsb, runCommand, hdec]
  rfl

/-! ### Register and buffer accesses -/

theorem step_write_register {s : State} {rest : List PortEvent} {index : BitVec 16} {data : Word}
    (hb : s.busy = false) (hi : index ≠ 0) (hp : s.port = .write .reg index data :: rest) :
    step s = .next (writeRegister (s.withPort rest) index.toNat data) := by
  rw [step_take hb hp, takeEvent_write hi]

theorem step_write_buffer {s : State} {rest : List PortEvent} {sp : Space} {index : BitVec 16} {data : Word}
    (hb : s.busy = false) (hp : s.port = .write sp index data :: rest) (hsp : sp ≠ .reg) :
    step s = .next (hostWrite (s.withPort rest) sp index.toNat data) := by
  rw [step_take hb hp]
  cases sp with
  | reg => exact absurd rfl hsp
  | frame | audio | pixel => rfl

theorem step_read {s : State} {rest : List PortEvent} {sp : Space} {index : BitVec 16}
    (hb : s.busy = false) (hp : s.port = .read sp index :: rest) :
    step s = .next (hostRead (s.withPort rest) sp index.toNat) := by
  rw [step_take hb hp, takeEvent_read]

/-- Settles O10: each of the five indices is an arm of `writeRegister`. -/
theorem readWriteRegistersTakeTheWord : Obligations.ReadWriteRegistersTakeTheWord := by
  intro s rest data hb
  refine ⟨?_, ?_, ?_, ?_, ?_⟩ <;> exact fun hp => step_write_register hb (by decide) hp

/-- A register that is not of access RW ignores a write (R22, R38). -/
theorem writeRegister_of_not_rw (s : State) {n : Nat} (h : n ∉ [0x03, 0x04, 0x05, 0x06, 0x0E]) (data : Word) :
    writeRegister s n data = s := by
  unfold writeRegister
  split
  case h_6 => rfl
  all_goals simp at h

/-- What each register index reads as (R21, R22): the list of the sixteen registers, 0 beyond them. -/
theorem readRegister_eq_getD (s : State) (n : Nat) :
    readRegister s n = [0, statusWord s, s.cause.code.zeroExtend 32, s.srcLen, s.start, s.ls, s.ll, s.locOff,
      s.locVar.code.zeroExtend 32, s.curOff, s.curVar.code.zeroExtend 32, s.expected, s.drift, s.count,
      s.frameLen, s.audioLen].getD n 0 := by
  match n with
  | 0 | 1 | 2 | 3 | 4 | 5 | 6 | 7 | 8 | 9 | 10 | 11 | 12 | 13 | 14 | 15 => rfl
  | _ + 16 => rfl

theorem readRegister_of_absent (s : State) {n : Nat} (h : n = 0 ∨ 0x0F < n) : readRegister s n = 0 := by
  rw [readRegister_eq_getD]
  obtain rfl | h := h
  · rfl
  · exact List.getD_eq_default _ _ h

theorem readBuffer_of_size_le (s : State) {sp : Space} {i : Nat} (h : sp.size ≤ i) : readBuffer s sp i = 0 :=
  if_neg h.not_gt

/-- A read that gives 0 leaves the block as it was. -/
theorem step_read_zero {s : State} {rest : List PortEvent} {sp : Space} {index : BitVec 16} (hb : s.busy = false)
    (hp : s.port = .read sp index :: rest) (h0 : (hostRead (s.withPort rest) sp index.toNat).readData = 0) :
    ∃ t, step s = .next t ∧ t = { s with port := rest, readData := 0, draws := t.draws } :=
  ⟨_, step_read hb hp, by rw [← h0]; rfl⟩

/-- Settles O11: writes to what is not there or not of access RW are ignored, and reads of it give 0. -/
theorem accessToNothingIsIgnored : Obligations.AccessToNothingIsIgnored := by
  intro s rest index data hb
  refine ⟨fun hi hp => ?_, fun hi hp => ?_, fun hp => ?_, fun hp => ?_⟩
  · have h0 : index ≠ 0 := fun h => hi (by simp [h])
    have hrw : index.toNat ∉ [0x03, 0x04, 0x05, 0x06, 0x0E] :=
      fun h => hi (List.mem_cons_of_mem _ (by simpa [← BitVec.toNat_inj] using h))
    rw [step_write_register hb h0 hp, writeRegister_of_not_rw _ hrw]
    rfl
  · rw [step_write_buffer hb hp nofun, hostWrite, if_neg hi.not_gt]
    rfl
  · obtain hp | hp := hp <;> exact step_write_buffer hb hp nofun
  · obtain ⟨hi, hp⟩ | ⟨hi, hp⟩ | ⟨hi, hp⟩ | ⟨hi, hp⟩ := hp
    · refine step_read_zero hb hp (readRegister_of_absent _ (hi.imp_left ?_))
      rintro rfl
      rfl
    all_goals exact step_read_zero hb hp (readBuffer_of_size_le _ hi)

/-- Settles O12: the word of a read is `readRegister`, which is the list's entry. -/
theorem registerReads : Obligations.RegisterReads := by
  intro s rest index hb hp
  refine ⟨_, step_read hb hp, ?_⟩
  rw [← readRegister_eq_getD]
  rfl

/-! ### The status word -/

/-- The bits of STATUS (R26): the code of WST, the eight flags in order, zero above. -/
theorem getLsbD_statusWord (s : State) (i : Nat) :
    (statusWord s).getLsbD i =
      if i < 3 then s.wst.code.getLsbD i
      else [s.busy, s.locFound, s.seedNHit, s.seedSHit, s.emit, s.curValid, s.aligned, s.outValid].getD (i - 3)
        false := by
  change BitVec.getLsbD (w := 21 + 1 + 1 + 1 + 1 + 1 + 1 + 1 + 1 + 3) _ i = _
  simp only [statusWord, BitVec.getLsbD_append, BitVec.getLsbD_ofBool]
  match i with
  | 0 | 1 | 2 | 3 | 4 | 5 | 6 | 7 | 8 | 9 | 10 => simp
  | _ + 11 => simp

theorem statusWord_wst (s : State) : (statusWord s).extractLsb' 0 3 = s.wst.code := by
  ext i hi
  rw [BitVec.getElem_extractLsb', Nat.zero_add, getLsbD_statusWord, if_pos hi, BitVec.getLsbD_eq_getElem]

theorem statusWord_high (s : State) : (statusWord s).extractLsb' 11 21 = 0 := by
  ext i hi
  rw [BitVec.getElem_extractLsb', getLsbD_statusWord, if_neg (by omega), List.getD_eq_default _ _ (by simp; omega)]
  simp

/-- Settles O13: each bit by `getLsbD_statusWord`; the codes are finitely many. -/
theorem statusWordBits : Obligations.StatusWordBits := by
  refine ⟨fun s => ?_, by decide⟩
  simp only [getLsbD_statusWord]
  exact ⟨statusWord_wst s, rfl, rfl, rfl, rfl, rfl, rfl, rfl, rfl, statusWord_high s⟩

end Sys2Proof.Machine
end

section
/-! PROOF. Host writes to the FRAME buffer (R73, R88). -/

namespace Sys2Proof.Machine

/-- A host write inside FRAME is one write to its memory (R73). -/
theorem hostWrite_frame_of_lt (s : State) {i : Nat} (hi : i < frameBytesMax) (data : Word) :
    hostWrite s .frame i data = { s with frame := s.frame.write i (data.truncate 8) } :=
  if_pos hi

/-- Settles O14: the step is one write to FRAME's memory, which reads back at its own index and nowhere else. -/
theorem frameWriteReplacesOneByte : Obligations.FrameWriteReplacesOneByte := by
  intro s rest index data hb hi hp
  have hstep : step s = .next { s.withPort rest with frame := s.frame.write index.toNat (data.truncate 8) } := by
    rw [step_write_buffer hb hp nofun, hostWrite_frame_of_lt _ hi, withPort_frame]
  refine ⟨_, hstep, rfl, ?_, fun j hj => Memory.read_write_other _ _ hj⟩
  rw [← truncate_eq_extractLsb]
  exact Memory.read_write_same _ _ _

end Sys2Proof.Machine
end

section
/-! PROOF. The command byte: its fields (R80), the bytes the decoder refuses (R81), decoder and encoder (R83). -/

namespace Sys2Proof

/-! ### The fields -/

theorem opField_toNat (b : Byte) : (opField b).toNat = b.toNat / 16 := by
  have := b.isLt
  rw [opField, BitVec.extractLsb'_toNat, Nat.shiftRight_eq_div_pow]
  omega

theorem varField_toNat (b : Byte) : (varField b).toNat = b.toNat % 8 := by
  rw [varField, BitVec.extractLsb'_toNat, Nat.shiftRight_zero]

/-- A byte with bit 3 clear is put together from its `op` and `var` (R80). -/
theorem commandByte_opField_varField {b : Byte} (hz : zField b = false) :
    commandByte (opField b) (varField b) = b := by
  refine BitVec.eq_of_getLsbD_eq (w := 4 + 1 + 3) fun i hi => ?_
  simp only [commandByte, opField, varField, BitVec.getLsbD_append, BitVec.getLsbD_extractLsb']
  match i with
  | 3 => exact hz.symm
  | 0 | 1 | 2 | 4 | 5 | 6 | 7 => simp

/-! ### Variant codes -/

theorem Variant.ofCode?_code (v : Variant) : Variant.ofCode? v.code = some v := by
  cases v <;> rfl

theorem Variant.code_of_ofCode? {c : BitVec 3} {v : Variant} (h : Variant.ofCode? c = some v) : c = v.code := by
  unfold Variant.ofCode? at h
  split at h
  case h_7 => cases h
  all_goals
    cases h
    exact BitVec.eq_of_toNat_eq ‹_›

theorem Variant.ofCode?_eq_none {c : BitVec 3} : Variant.ofCode? c = none ↔ 5 < c.toNat := by
  revert c
  decide

/-! ### Illegal bytes -/

theorem decodePlain_toOption_eq_none {b : Byte} {i : Instr} :
    (decodePlain b i).toOption = none ↔ b.toNat % 8 ≠ 0 := by
  have hv : varField b = 0 ↔ b.toNat % 8 = 0 := by rw [← varField_toNat, ← BitVec.toNat_inj]; rfl
  rw [decodePlain, ne_eq, ← hv]
  split <;> simp_all [Except.toOption]

theorem decodeWithVariant_toOption_eq_none {b : Byte} {mk : Variant → Instr} :
    (decodeWithVariant b mk).toOption = none ↔ 5 < b.toNat % 8 := by
  rw [decodeWithVariant, ← varField_toNat, ← Variant.ofCode?_eq_none]
  split <;> simp [Except.toOption, *]

/-- The bytes the decoder refuses (R81), by `op`, `z` and `var`. -/
theorem decode_toOption_eq_none (b : Byte) :
    (decode b).toOption = none ↔
      8 < b.toNat / 16 ∨ b.getLsbD 3 = true
        ∨ ((b.toNat / 16 = 3 ∨ b.toNat / 16 = 6) ∧ 5 < b.toNat % 8)
        ∨ (b.toNat / 16 ≠ 3 ∧ b.toNat / 16 ≠ 6 ∧ b.toNat % 8 ≠ 0) := by
  rw [decode, zField, opField_toNat]
  cases b.getLsbD 3 with
  | true => simp [Except.toOption]
  | false =>
    simp only [Bool.false_eq_true, if_false, false_or]
    split
    case h_4 | h_7 => rw [decodeWithVariant_toOption_eq_none]; omega
    case h_10 =>
      simp only [Except.toOption, true_iff, imp_false] at *
      omega
    all_goals rw [decodePlain_toOption_eq_none]; omega

/-- Settles O3: the 19 bytes are evaluated; the illegal ones are those of `decode_toOption_eq_none`. -/
theorem commandBytesDecode : Obligations.CommandBytesDecode :=
  ⟨rfl, rfl, rfl, rfl, rfl, rfl, rfl, rfl, rfl, rfl, rfl, rfl, rfl, rfl, rfl, rfl, rfl, rfl, rfl,
    decode_toOption_eq_none⟩

/-! ### Decoder and encoder -/

theorem decode_encode (i : Instr) : decode (encode i) = .ok i := by
  cases i with
  | matchV v | decodeV v => cases v <;> rfl
  | nop | init | probe | locate | fetch | wstep | next => rfl

theorem decodePlain_eq_ok {b : Byte} {i j : Instr} (h : decodePlain b i = .ok j) : varField b = 0 ∧ i = j := by
  unfold decodePlain at h
  split at h
  · exact ⟨‹_›, Except.ok.inj h⟩
  · cases h

theorem decodeWithVariant_eq_ok {b : Byte} {mk : Variant → Instr} {j : Instr}
    (h : decodeWithVariant b mk = .ok j) : ∃ v, varField b = v.code ∧ mk v = j := by
  unfold decodeWithVariant at h
  split at h
  · exact ⟨_, Variant.code_of_ofCode? ‹_›, Except.ok.inj h⟩
  · cases h

/-- The fields of a byte that decodes are those of the command's own byte, so it is that byte. -/
theorem eq_encode_of_decode {b : Byte} {i : Instr} (h : decode b = .ok i) : b = encode i := by
  unfold decode at h
  split at h
  · cases h
  rename_i hz
  rw [← commandByte_opField_varField (Bool.eq_false_of_not_eq_true hz)]
  split at h
  case h_10 => cases h
  case h_4 hop | h_7 hop =>
    obtain ⟨v, hv, rfl⟩ := decodeWithVariant_eq_ok h
    rw [hv, (BitVec.toNat_eq_nat.1 hop).2]
    rfl
  all_goals
    rename_i hop
    obtain ⟨hv, rfl⟩ := decodePlain_eq_ok h
    rw [hv, (BitVec.toNat_eq_nat.1 hop).2]
    rfl

/-- Settles O4: `decode_encode` and `eq_encode_of_decode`. -/
theorem decodeEncodeAgree : Obligations.DecodeEncodeAgree :=
  fun i => ⟨decode_encode i, fun _ => eq_encode_of_decode⟩

end Sys2Proof
end

section
/-! PROOF. What a step answers to an illegal byte (R84), that it always answers, and the host's buffer reads (R88). -/

namespace Sys2Proof.Machine

/-! ### Commands -/

theorem runCommand_of_illegal {b : Byte} (h : (decode b).toOption = none) (s : State) :
    runCommand b s = .next (unlessFailed s (raise .illegalCommand)) := by
  unfold runCommand
  cases hd : decode b with
  | ok i => rw [hd] at h; cases h
  | error r => rfl

/-- Settles O6: the step is the raise of `IllegalCommand`, guarded by `unlessFailed`. -/
theorem illegalByteRaises : Obligations.IllegalByteRaises := by
  intro s rest data hb hp hill
  have hstep : step s = .next (unlessFailed (s.withPort rest) (raise .illegalCommand)) := by
    rw [step_take hb hp, takeEvent_command, truncate_eq_extractLsb, runCommand_of_illegal hill]
  rw [hstep]
  refine ⟨fun hw => ?_, fun hw => ?_⟩
  · rw [unlessFailed_of_ne (s := s.withPort rest) hw]
    rfl
  · rw [unlessFailed_of_eq (s := s.withPort rest) hw]
    rfl

/-- No command faults or is refused, in any state: each arm of `exec` is a `.next`. -/
theorem exec_answers (i : Instr) (s : State) : ∃ t, exec i s = .next t := by
  cases i with
  | nop => exact ⟨_, exec_nop s⟩
  | init => exact ⟨_, exec_init s⟩
  | probe => exact ⟨_, exec_probe s⟩
  | matchV v => exact ⟨_, exec_matchV v s⟩
  | locate => exact ⟨_, exec_locate s⟩
  | fetch => exact ⟨_, exec_fetch s⟩
  | decodeV v => exact ⟨_, exec_decodeV v s⟩
  | wstep => exact ⟨_, exec_wstep s⟩
  | next => exact ⟨_, exec_next s⟩

theorem runCommand_answers (b : Byte) (s : State) : ∃ t, runCommand b s = .next t := by
  unfold runCommand
  cases decode b with
  | ok i => exact exec_answers i s
  | error r => exact ⟨_, rfl⟩

theorem takeEvent_answers (e : PortEvent) (s : State) : ∃ t, takeEvent e s = .next t := by
  unfold takeEvent
  cases e.commandByte? with
  | some b => exact runCommand_answers b s
  | none => exact ⟨_, rfl⟩

/-- Settles O9: a step that is not busy waits or takes an event, and an event runs a command, raises, or is taken. -/
theorem nothingElseStopsTheBlock : Obligations.NothingElseStopsTheBlock := by
  refine ⟨exec_answers, fun s hb => ?_⟩
  cases hp : s.port with
  | nil => exact ⟨s, by rw [step, hp]⟩
  | cons e rest => exact step_take hb hp ▸ takeEvent_answers e (s.withPort rest)

/-! ### Buffer reads -/

theorem buffer_withPort (s : State) (rest : List PortEvent) (sp : Space) :
    (s.withPort rest).buffer sp = s.buffer sp := by
  cases sp <;> rfl

/-- A host read of a buffer byte that stands there gives it, zero-extended (R88). -/
theorem readBuffer_of_written {s : State} {sp : Space} {i : Nat} {b : Byte} (hi : i < sp.size)
    (h : Memory.read (s.buffer sp) i = some b) : readBuffer s sp i = b.zeroExtend 32 := by
  rw [readBuffer, if_pos hi, h, Option.getD_some]

/-- Settles O15: the word read is `readBuffer`, in the case where the byte stands there and in the case where not. -/
theorem bufferReads : Obligations.BufferReads := by
  intro s rest index sp hb hsp hi hp
  refine ⟨_, step_read hb hp, rfl, fun b h => ?_, fun h => ?_⟩ <;> rw [hostRead_readData, if_neg hsp]
  · exact readBuffer_of_written hi (by rwa [buffer_withPort])
  · exact readBuffer_of_unwritten hi (by rwa [buffer_withPort])

end Sys2Proof.Machine
end

section
/-! PROOF. The matcher: the mask's positions (R102 to R105), the masked compare (R106 to R108), PROBE (R109) and MATCH
(R110). -/

namespace Sys2Proof.Machine

/-! ### The mask -/

/-- Every tenth number from `a` on. -/
theorem exists_eq_add_ten_mul {a i : Nat} : (∃ j, i = a + 10 * j) ↔ a ≤ i ∧ (i - a) % 10 = 0 := by
  constructor
  · rintro ⟨j, rfl⟩
    omega
  · rintro ⟨hle, hmod⟩
    exact ⟨(i - a) / 10, by omega⟩

/-- The mask positions inside a sequence are the slots that R102 and R103 list. -/
theorem maskPos_iff_maskedSlot {c : CfgData} {v : Variant} {len i : Nat} (hi : i < len) :
    maskPos c v len i = true ↔ maskedSlot c v i := by
  rw [maskPos_eq_true]
  cases v with
  | monoN | monoS | colorN | colorS =>
    simp [maskedSlot, exists_eq_add_ten_mul, Variant.mode, Variant.orient, Orient.audStart, hi]
  | xpN | xpS => simp [maskedSlot, Variant.mode, Variant.orient, CfgData.xpMask, hi]

/-- Settles O21: `getElem?_mask`, at a position that `maskPos_iff_maskedSlot` names and at any other. -/
theorem maskZeroesItsPositions : Obligations.MaskZeroesItsPositions := by
  refine fun c v x => ⟨length_mask c v x, fun i hi => ?_⟩
  rw [getElem?_mask, ← maskPos_iff_maskedSlot hi, List.getElem?_eq_getElem hi]
  exact ⟨fun h => by simp [h], fun h => by simp [h]⟩

/-- Settles O22: the second mask meets only zeroes at its positions, which are those of the first. -/
theorem maskIsIdempotent : Obligations.MaskIsIdempotent := by
  refine fun c v x => List.ext_getElem? fun i => ?_
  simp only [getElem?_mask, length_mask, Option.map_map]
  congr 1
  funext b
  by_cases h : maskPos c v x.length i = true <;> simp [h]

/-! ### The source window -/

theorem getElem?_window (s : State) (a : Nat) {n i : Nat} (hi : i < n) :
    ((List.range n).map fun i => s.srcByte (a + i))[i]? = some (s.srcByte (a + i)) := by
  simp [hi]

/-- A window reads as the sequence `x` exactly if it fits and holds the bytes of `x` (R62). -/
theorem memRead_eq_some_iff_forall {s : State} {a n : Nat} {x : List Byte} (hx : x.length = n) :
    memRead s a n = some x ↔
      a + n ≤ s.srcLen.toNat ∧ ∀ i < n, x[i]? = some (s.srcByte (a + i)) := by
  rw [memRead_eq_some]
  refine and_congr_right fun _ => ⟨?_, fun h => ?_⟩
  · rintro rfl i hi
    exact getElem?_window s a hi
  · refine List.ext_getElem? fun i => ?_
    by_cases hi : i < n
    · rw [h i hi, getElem?_window s a hi]
    · simp [hx, not_lt.1 hi]

/-! ### The masked compare -/

/-- Sequences of one length are equal under the mask exactly if they agree off its positions. -/
theorem mask_eq_mask_iff {c : CfgData} {v : Variant} {n : Nat} {x y : List Byte} (hx : x.length = n)
    (hy : y.length = n) :
    mask c v x = mask c v y ↔ ∀ i < n, maskPos c v n i = false → x[i]? = y[i]? := by
  rw [List.ext_getElem?_iff]
  refine forall_congr' fun i => ?_
  rw [getElem?_mask, getElem?_mask, hx, hy]
  by_cases hi : i < n
  · rw [List.getElem?_eq_getElem (hx ▸ hi), List.getElem?_eq_getElem (hy ▸ hi)]
    cases maskPos c v n i <;> simp [hi]
  · simp [hi, hx, hy]

theorem matchesAt_eq_true {s : State} {v : Variant} {p : Nat} :
    matchesAt s v p = true ↔ ∃ w, memRead s p (s.cfg.data.markerLen v) = some w
      ∧ mask s.cfg.data v w = mask s.cfg.data v (s.cfg.data.marker.get v) := by
  unfold matchesAt
  cases memRead s p (s.cfg.data.markerLen v) <;> simp

/-- Settles O23: the window is that of `memRead_eq_some`, compared by `mask_eq_mask_iff`. -/
theorem matchComparesOffTheMask : Obligations.MatchComparesOffTheMask := by
  intro s v p
  simp only [matchesAt_eq_true, memRead_eq_some, and_assoc, exists_and_left, exists_eq_left]
  refine and_congr_right fun _ => ?_
  rw [eq_comm, mask_eq_mask_iff (n := s.cfg.data.markerLen v) rfl (by simp)]
  exact forall₂_congr fun i hi => by rw [getElem?_window s p hi]

/-! ### PROBE -/

/-- Each half of the probe asks whether the window at `p` reads as that seed (R100). -/
theorem probe_eq (s : State) (p : Nat) :
    probe s p = (memRead s p seedLen == some s.cfg.data.seedN, memRead s p seedLen == some s.cfg.data.seedS) := by
  unfold probe
  cases memRead s p seedLen <;> rfl

theorem exec_probe_of_ne_failed {s : State} (hw : s.wst ≠ .failed) :
    exec .probe s = .next (s.setSeedHits (memRead s s.ls.toNat seedLen == some s.cfg.data.seedN)
      (memRead s s.ls.toNat seedLen == some s.cfg.data.seedS)) := by
  rw [exec_probe, unlessFailed_of_ne hw, probeStep, probe_eq, lsOperand]

/-- Settles O20: each flag says that the window at `LS` reads as that seed, which is to fit and to agree in 8 bytes. -/
theorem probeSetsTheSeedFlags : Obligations.ProbeSetsTheSeedFlags := by
  refine ⟨rfl, fun s => ⟨fun hw => ⟨_, exec_probe_of_ne_failed hw, rfl, ?_, ?_⟩, fun hw => ?_⟩⟩
  · exact beq_iff_eq.trans (memRead_eq_some_iff_forall (length_seeds s.cfg).1)
  · exact beq_iff_eq.trans (memRead_eq_some_iff_forall (length_seeds s.cfg).2)
  · rw [exec_probe, unlessFailed_of_eq hw]

/-! ### MATCH -/

theorem matchStep_of_matchesAt {s : State} {v : Variant} (h : matchesAt s v s.ls.toNat = true) :
    matchStep v s = s.setLocated s.ls v :=
  if_pos h

theorem matchStep_of_not_matchesAt {s : State} {v : Variant} (h : matchesAt s v s.ls.toNat = false) :
    matchStep v s = s.setNotLocated :=
  if_neg (Bool.eq_false_iff.1 h)

/-- The bytes of MATCH's row that name no variant (R81, R84). -/
theorem decode_match_row_illegal {b : Byte} (hlo : 0x36 ≤ b.toNat) (hhi : b.toNat ≤ 0x3F) :
    (decode b).toOption = none := by
  rw [decode_toOption_eq_none]
  have hbit : b.getLsbD 3 = decide (b.toNat / 8 % 2 = 1) := by
    rw [BitVec.getLsbD, Nat.testBit_eq_decide_div_mod_eq]
  rw [hbit, decide_eq_true_eq]
  omega

/-- Settles O24: MATCH's step, where its variant matches at `LS` and where not; `decode_encode` gives its byte. -/
theorem matchCommand : Obligations.MatchCommand := by
  refine ⟨fun s v => ⟨decode_encode (.matchV v), fun hw h => ?_, fun hw h => ?_, fun hw => ?_⟩,
    fun _ => decode_match_row_illegal⟩
  · rw [exec_matchV, unlessFailed_of_ne hw, matchStep_of_matchesAt h]
    rfl
  · rw [exec_matchV, unlessFailed_of_ne hw, matchStep_of_not_matchesAt h]
    rfl
  · rw [exec_matchV, unlessFailed_of_eq hw]

end Sys2Proof.Machine
end

section
/-! PROOF. The locator: the variant at one offset (R120), the first marker of a window (R123, R124), LOCATE (R126). -/

namespace Sys2Proof.Machine

/-! ### The variant at one offset -/

/-- Settles O25: `classify` searches the priority list from its head. -/
theorem classifyTakesTheFirstMatch : Obligations.ClassifyTakesTheFirstMatch := by
  refine fun s p => ⟨fun v => ?_, ?_⟩
  · rw [classify, List.find?_eq_some_iff_append]
    simp only [Bool.not_eq_true', ← exists_and_left, and_left_comm]
  · simp only [classify, List.find?_eq_none, Bool.not_eq_true]

theorem markerAt_eq_none {s : State} {p : Nat} :
    markerAt s p = none ↔ ¬(seedHit s p = true ∧ (classify s p).isSome = true) := by
  rw [← Option.not_isSome_iff_eq_none, Option.isSome_iff_exists, Option.isSome_iff_exists]
  simp only [markerAt_eq_some, exists_and_left]

/-! ### The first marker of a window -/

/-- What `locate` finds is the first marker of its window: that the scan stops at the source's end keeps nothing from
it, because every marker lies below that end. -/
theorem locate_eq_some {s : State} {a l q : Nat} {v : Variant} :
    locate s a l = some (q, v) ↔
      a ≤ q ∧ q < l ∧ markerAt s q = some v ∧ ∀ r, a ≤ r → r < q → markerAt s r = none := by
  refine ⟨locate_some_spec, fun ⟨ha, hl, hm, hfirst⟩ => scan_eq_some.2 ⟨ha, ?_, hl, hm, hfirst⟩⟩
  have := markerAt_lt hm
  omega

/-- `locate` finds nothing exactly if its window holds no marker: one that held a marker would hold a first one. -/
theorem locate_eq_none {s : State} {a l : Nat} :
    locate s a l = none ↔ ∀ q, a ≤ q → q < l → markerAt s q = none := by
  constructor
  · intro h q
    induction q using Nat.strong_induction_on with
    | _ q ih =>
      refine fun ha hl => Option.eq_none_iff_forall_ne_some.2 fun v hv => ?_
      have hq := locate_eq_some.2 ⟨ha, hl, hv, fun r hr hrq => ih r hrq hr (hrq.trans hl)⟩
      rw [h] at hq
      cases hq
  · refine fun h => Option.eq_none_iff_forall_ne_some.2 fun ⟨q, v⟩ hq => ?_
    obtain ⟨ha, hl, hm, -⟩ := locate_some_spec hq
    rw [h q ha hl] at hm
    cases hm

/-- Settles O26: `locate_eq_some` and `locate_eq_none`, with the test at one offset taken apart. -/
theorem locateFindsTheFirstMarker : Obligations.LocateFindsTheFirstMarker := by
  refine fun s a l => ⟨fun p v => ?_, ?_⟩
  · simp only [locate_eq_some, markerAt_eq_some, markerAt_eq_none, and_assoc]
  · simp only [locate_eq_none, markerAt_eq_none]

/-! ### The laws of the window -/

/-- A marker's seed lies in the source with all its 8 bytes (R101). -/
theorem markerAt_fits {s : State} {p : Nat} {v : Variant} (h : markerAt s p = some v) : p + 8 ≤ s.srcLen.toNat :=
  seedHit_fits (markerAt_eq_some.1 h).1

/-- Two limits give one result if every marker lies below both or below neither. -/
theorem locate_congr_limit {s : State} {a l l' : Nat}
    (h : ∀ q v, markerAt s q = some v → (q < l ↔ q < l')) : locate s a l = locate s a l' := by
  refine Option.ext fun ⟨q, v⟩ => ?_
  rw [locate_eq_some, locate_eq_some]
  refine and_congr_right fun _ => ?_
  rw [← and_assoc, ← and_assoc]
  exact and_congr_left fun _ => and_congr_left fun hm => h q v hm

theorem locate_of_limit_le {s : State} {a l : Nat} (h : l ≤ a) : locate s a l = none :=
  locate_eq_none.2 fun q _ _ => by omega

theorem locate_of_srcLen_lt {s : State} (h : s.srcLen.toNat < 8) (a l : Nat) : locate s a l = none := by
  refine locate_eq_none.2 fun q _ _ => Option.eq_none_iff_forall_ne_some.2 fun v hm => ?_
  have := markerAt_fits hm
  omega

/-- A marker of the first part comes before any of the second; with none there, the scan goes on from the cut. -/
theorem locate_split {s : State} {a m l : Nat} (ham : a ≤ m) (hml : m ≤ l) :
    locate s a l = (locate s a m).or (locate s m l) := by
  cases h : locate s a m with
  | some r =>
    obtain ⟨ha, hm, hv, hfirst⟩ := locate_some_spec h
    exact locate_eq_some.2 ⟨ha, hm.trans_le hml, hv, hfirst⟩
  | none =>
    rw [locate_eq_none] at h
    refine Option.ext fun ⟨q, v⟩ => ?_
    rw [Option.none_or, locate_eq_some, locate_eq_some]
    constructor
    · rintro ⟨ha, hl, hv, hfirst⟩
      have hmq : m ≤ q := by
        by_contra hlt
        rw [h q ha (not_le.1 hlt)] at hv
        cases hv
      exact ⟨hmq, hl, hv, fun r hr => hfirst r (ham.trans hr)⟩
    · rintro ⟨hmq, hl, hv, hfirst⟩
      refine ⟨ham.trans hmq, hl, hv, fun r hr hrq => ?_⟩
      rcases lt_or_ge r m with hrm | hmr
      · exact h r hr hrm
      · exact hfirst r hmr hrq

/-- Settles O27: no marker stands in an empty window or has its seed run past the source, and a window may be cut. -/
theorem locateWindowLaws : Obligations.LocateWindowLaws := by
  refine fun s a l => ⟨locate_of_limit_le, fun h8 => ?_, fun h8 => locate_of_srcLen_lt h8 a l, fun m => locate_split⟩
  refine locate_congr_limit fun q v hm => ?_
  have := markerAt_fits hm
  omega

/-! ### A source of zeros -/

theorem seedHit_eq_true {s : State} {p : Nat} :
    seedHit s p = true ↔ memRead s p seedLen = some s.cfg.data.seedN ∨ memRead s p seedLen = some s.cfg.data.seedS := by
  rw [seedHit, probe_eq, Bool.or_eq_true, beq_iff_eq, beq_iff_eq]

/-- The mask brings in no byte but 0 (R104). -/
theorem mem_of_mem_mask {c : CfgData} {v : Variant} {x : List Byte} {b : Byte} (h : b ∈ mask c v x) (hb : b ≠ 0) :
    b ∈ x := by
  obtain ⟨i, hi, rfl⟩ := List.mem_mapIdx.1 h
  split at hb
  · exact absurd rfl hb
  · rw [if_neg ‹_›]
    exact List.getElem_mem hi

section

variable {s : State} (hz : ∀ i < s.srcLen.toNat, s.srcByte i = 0)
include hz

theorem eq_zero_of_mem_memRead {p n : Nat} {w : List Byte} (hw : memRead s p n = some w) {b : Byte} (hb : b ∈ w) :
    b = 0 := by
  obtain ⟨hfit, rfl⟩ := memRead_eq_some.1 hw
  obtain ⟨i, hi, rfl⟩ := List.mem_map.1 hb
  have := List.mem_range.1 hi
  exact hz _ (by omega)

/-- Zeros match no marker that keeps a byte other than 0 under its mask. -/
theorem matchesAt_of_zero {v : Variant} (hv : ∃ b ∈ mask s.cfg.data v (s.cfg.data.marker.get v), b ≠ 0) (p : Nat) :
    matchesAt s v p = false := by
  obtain ⟨b, hb, hne⟩ := hv
  refine Bool.eq_false_iff.2 fun hm => ?_
  obtain ⟨w, hw, heq⟩ := matchesAt_eq_true.1 hm
  exact hne (eq_zero_of_mem_memRead hz hw (mem_of_mem_mask (heq ▸ hb) hne))

/-- Zeros hit no seed if each seed has a byte other than 0. -/
theorem seedHit_of_zero (hn : ∃ b ∈ s.cfg.data.seedN, b ≠ 0) (hs : ∃ b ∈ s.cfg.data.seedS, b ≠ 0) (p : Nat) :
    seedHit s p = false := by
  obtain ⟨b, hb, hbne⟩ := hn
  obtain ⟨c, hc, hcne⟩ := hs
  refine Bool.eq_false_iff.2 fun hit => ?_
  rcases seedHit_eq_true.1 hit with hw | hw
  · exact hbne (eq_zero_of_mem_memRead hz hw hb)
  · exact hcne (eq_zero_of_mem_memRead hz hw hc)

end

/-- Settles O28: each half of P-NONZERO takes from every offset one of the two things a marker needs. -/
theorem zeroSourceHasNoMarker : Obligations.ZeroSourceHasNoMarker := by
  refine fun s a l hnz hz => locate_eq_none.2 fun q _ _ => Option.eq_none_iff_forall_ne_some.2 fun v hm => ?_
  obtain ⟨hit, hv⟩ := markerAt_eq_some.1 hm
  obtain ⟨hmem, hmatch⟩ := classify_mem hv
  rcases hnz with hmarkers | ⟨hn, hs⟩
  · exact Bool.eq_false_iff.1 (matchesAt_of_zero hz (hmarkers v hmem) q) hmatch
  · exact Bool.eq_false_iff.1 (seedHit_of_zero hz hn hs q) hit

/-! ### LOCATE -/

theorem locateStep_of_some {s : State} {p : Nat} {v : Variant} (h : locate s s.ls.toNat s.ll.toNat = some (p, v)) :
    locateStep s = s.setLocated (BitVec.ofNat 32 p) v := by
  rw [locateStep, lsOperand, llOperand, h]

theorem locateStep_of_none {s : State} (h : locate s s.ls.toNat s.ll.toNat = none) :
    locateStep s = s.setNotLocated := by
  rw [locateStep, lsOperand, llOperand, h]

/-- Settles O30: LOCATE's step, where the window holds a marker and where not; the offset lies below `LL`, a word. -/
theorem locateCommand : Obligations.LocateCommand := by
  refine ⟨decode_encode .locate, fun s => ⟨fun p v hw h => ⟨?_, ?_⟩, fun hw h => ?_, fun hw => ?_⟩⟩
  · rw [exec_locate, unlessFailed_of_ne hw, locateStep_of_some h]
    rfl
  · obtain ⟨-, hl, -, -⟩ := locate_some_spec h
    exact hl.trans s.ll.isLt
  · rw [exec_locate, unlessFailed_of_ne hw, locateStep_of_none h]
    rfl
  · rw [exec_locate, unlessFailed_of_eq hw]

end Sys2Proof.Machine
end

section
/-! PROOF. The byte reorders (R141 to R143) and the audio sequence (R144, R145), byte by byte. -/

namespace Sys2Proof.Machine

/-! ### The pair swap -/

/-- Byte `i` of the pair swap is the other byte of the pair that `i` lies in (R141). -/
theorem getElem?_pairSwap {x : List Byte} (hx : x.length % 2 = 0) (i : Nat) :
    (pairSwap x)[i]? = x[if i % 2 = 0 then i + 1 else i - 1]? := by
  induction x using pairSwap.induct generalizing i with
  | case1 a b t ih =>
    have ht : t.length % 2 = 0 := by simp only [List.length_cons] at hx; omega
    match i with
    | 0 => rfl
    | 1 => rfl
    | i + 2 =>
      have hi : (if (i + 2) % 2 = 0 then i + 2 + 1 else i + 2 - 1) = (if i % 2 = 0 then i + 1 else i - 1) + 2 := by
        split <;> split <;> omega
      rw [hi]
      exact ih ht i
  | case2 x hpair =>
    match x with
    | [] => rfl
    | [_] => simp at hx
    | a :: b :: t => exact absurd rfl (hpair a b t)

theorem pairSwap_pairSwap {x : List Byte} (hx : x.length % 2 = 0) : pairSwap (pairSwap x) = x := by
  refine List.ext_getElem? fun i => ?_
  rw [getElem?_pairSwap (by rwa [length_pairSwap]), getElem?_pairSwap hx]
  congr 1
  split <;> split <;> omega

/-- With an even length the mirror image of a pair is a pair, so that the swap and the reversal commute (R142). -/
theorem reverse_pairSwap {x : List Byte} (hx : x.length % 2 = 0) : (pairSwap x).reverse = pairSwap x.reverse := by
  refine List.ext_getElem? fun i => ?_
  rw [getElem?_pairSwap (by rwa [List.length_reverse])]
  by_cases hi : i < x.length
  · rw [List.getElem?_reverse (by rwa [length_pairSwap]), length_pairSwap, getElem?_pairSwap hx,
      List.getElem?_reverse (by split <;> omega)]
    congr 1
    split <;> split <;> omega
  · rw [List.getElem?_eq_none (by rw [List.length_reverse, length_pairSwap]; omega),
      List.getElem?_eq_none (by rw [List.length_reverse]; split <;> omega)]

/-- Settles O31: the bytes by `getElem?_pairSwap`, and the laws that follow from them. -/
theorem pairSwapExchangesNeighbours : Obligations.PairSwapExchangesNeighbours := by
  refine fun x hx => ⟨fun k _ => ⟨?_, ?_⟩, pairSwap_pairSwap hx, length_pairSwap x, reverse_pairSwap hx⟩
  · rw [getElem?_pairSwap hx, if_pos (by omega)]
  · rw [getElem?_pairSwap hx, if_neg (by omega), Nat.add_sub_cancel]

/-! ### The audio sequence -/

/-- The audio slots of the canonical frame hold those of the raw one: the swap takes byte 8 of each ten to 9 (R145). -/
theorem getElem?_canon_audio (v : Variant) {f : List Byte} (hf : f.length % 2 = 0) (j : Nat) :
    (canon v f)[9 + 10 * j]? = f[v.orient.audStart + 10 * j]? := by
  unfold canon
  cases v.orient with
  | normal =>
    rw [getElem?_pairSwap hf, if_neg (by omega), Orient.audStart]
    congr 1
    omega
  | swapped => rfl

/-- An audio byte is its byte of the canonical frame, without a default (R144). -/
theorem getElem?_audioOf_eq {f : List Byte} {j : Nat} (hj : j < f.length / 10) : (audioOf f)[j]? = f[9 + 10 * j]? := by
  rw [getElem?_audioOf f hj, List.getElem?_eq_getElem (by omega), Option.getD_some]

/-- Read from its end, a frame of whole tens holds its audio bytes at the multiples of ten, last first (R164). -/
theorem getElem?_reverse_audio {f : List Byte} (hf : f.length % 10 = 0) {j : Nat} (hj : j < f.length / 10) :
    f.reverse[10 * j]? = (audioOf f)[f.length / 10 - 1 - j]? := by
  rw [List.getElem?_reverse (by omega), getElem?_audioOf_eq (by omega)]
  congr 1
  omega

theorem stride_mod_ten (v : Variant) : v.stride % 10 = 0 := by
  cases v <;> rfl

/-- Settles O32: the three readings of an audio byte, for a frame of whole tens, which every stride is. -/
theorem audioIsEveryTenthByte : Obligations.AudioIsEveryTenthByte := by
  intro v f hf
  have hten := stride_mod_ten v
  have hlen : (canon v f).length = v.stride := by rw [length_canon, hf]
  refine ⟨by rw [length_audioOf, hlen], fun j hj => ?_⟩
  have haudio : (audioOf (canon v f))[j]? = (canon v f)[9 + 10 * j]? := getElem?_audioOf_eq (by rwa [hlen])
  refine ⟨haudio, haudio.trans (getElem?_canon_audio v (by omega) j), ?_⟩
  rw [getElem?_reverse_audio (by rwa [hlen]) (by rwa [hlen]), hlen]

end Sys2Proof.Machine
end

section
/-! PROOF. The commands FETCH (R147) and DECODE (R148): what they deliver, where they raise, where they are ignored. -/

namespace Sys2Proof.Machine

/-! ### Deliveries -/

/-- FETCH's writes, byte by byte: the sequence where it reaches, the old bytes behind it. -/
theorem read_setFrame (s : State) (bs : List Byte) (i : Nat) :
    Memory.read (s.setFrame bs).frame i = if i < bs.length then bs[i]? else Memory.read s.frame i := by
  rw [setFrame_frame, Memory.read_writePrefix]

/-- DECODE's writes to AUDIO, byte by byte. -/
theorem read_setDecoded_audio (s : State) (audio pixels : List Byte) (i : Nat) :
    Memory.read (s.setDecoded audio pixels).audio i =
      if i < audio.length then audio[i]? else Memory.read s.audio i := by
  rw [setDecoded_audio, Memory.read_writePrefix]

/-- DECODE's writes to PIXEL, byte by byte. -/
theorem read_setDecoded_pixel (s : State) (audio pixels : List Byte) (i : Nat) :
    Memory.read (s.setDecoded audio pixels).pixel i =
      if i < pixels.length then pixels[i]? else Memory.read s.pixel i := by
  rw [setDecoded_pixel, Memory.read_writePrefix]

theorem toNat_setFrame_frameLen (s : State) {bs : List Byte} (h : bs.length < 2 ^ 32) :
    (s.setFrame bs).frameLen.toNat = bs.length := by
  rw [setFrame_frameLen, BitVec.toNat_ofNat, Nat.mod_eq_of_lt h]

theorem toNat_setDecoded_audioLen (s : State) {audio : List Byte} (pixels : List Byte) (h : audio.length < 2 ^ 32) :
    (s.setDecoded audio pixels).audioLen.toNat = audio.length := by
  rw [setDecoded_audioLen, BitVec.toNat_ofNat, Nat.mod_eq_of_lt h]

/-! ### FETCH -/

/-- The bytes of the located frame: the window at `CUR_OFF` of `CUR_VAR`'s stride (R147). -/
def State.locatedFrame (s : State) : List Byte :=
  (List.range s.curVar.stride).map fun i => s.srcByte (s.curOff.toNat + i)

@[simp] theorem length_locatedFrame (s : State) : s.locatedFrame.length = s.curVar.stride := by
  simp [State.locatedFrame]

theorem fetchStep_of_fits {s : State} (hv : s.curValid = true)
    (hfit : s.curOff.toNat + s.curVar.stride ≤ s.srcLen.toNat) : fetchStep s = s.setFrame s.locatedFrame := by
  rw [fetchStep, if_pos hv, memRead_eq_some.2 ⟨hfit, rfl⟩]
  rfl

theorem fetchStep_of_short {s : State} (hv : s.curValid = true)
    (hshort : s.srcLen.toNat < s.curOff.toNat + s.curVar.stride) : fetchStep s = raise .lengthPrecondition s := by
  rw [fetchStep, if_pos hv, memRead_eq_none.2 hshort]

theorem fetchStep_of_not_valid {s : State} (hv : s.curValid = false) : fetchStep s = raise .illegalCommand s :=
  if_neg (Bool.eq_false_iff.1 hv)

/-- Settles O39: FETCH's step in each of its three cases; the frame it delivers reads back byte by byte. -/
theorem fetchCommand : Obligations.FetchCommand := by
  refine ⟨decode_encode .fetch, fun s =>
    ⟨fun hw hv hfit => ?_, fun hw hv => ?_, fun hw hv hshort => ?_, fun hw => ?_⟩⟩
  · have hstride := (stride_bounds s.curVar).2
    refine ⟨s.setFrame s.locatedFrame, ?_, rfl, ?_, fun i hi => ?_, fun i hi => ?_⟩
    · rw [exec_fetch, unlessFailed_of_ne hw, fetchStep_of_fits hv hfit]
    · rw [toNat_setFrame_frameLen s (by rw [length_locatedFrame]; omega), length_locatedFrame]
    · rw [read_setFrame, length_locatedFrame, if_pos hi]
      exact getElem?_window s _ hi
    · rw [read_setFrame, length_locatedFrame, if_neg (not_lt.2 hi)]
  · rw [exec_fetch, unlessFailed_of_ne hw, fetchStep_of_not_valid hv]
    rfl
  · rw [exec_fetch, unlessFailed_of_ne hw, fetchStep_of_short hv hshort]
    rfl
  · rw [exec_fetch, unlessFailed_of_eq hw]

/-! ### DECODE -/

theorem decodeStep_of_length {v : Variant} {s : State} (h : s.frameLen.toNat = v.stride) :
    decodeStep v s =
      s.setDecoded (audioOf (canon v (frameOperand s))) (pixelsOf s.cfg.data v (frameOperand s)) := by
  rw [decodeStep, if_pos h, decodeFrame]

theorem decodeStep_of_other_length {v : Variant} {s : State} (h : s.frameLen.toNat ≠ v.stride) :
    decodeStep v s = raise .lengthPrecondition s :=
  if_neg h

/-- DECODE's operand agrees with every byte FRAME holds (R148). -/
theorem getElem?_frameOperand_of_written {s : State} {i : Nat} {b : Byte} (hi : i < s.frameLen.toNat)
    (h : Memory.read s.frame i = some b) : (frameOperand s)[i]? = some b := by
  rw [getElem?_frameOperand s hi, h, Option.getD_some]

/-- A byte whose low nibble is 6 or more is illegal: its `var` is no variant's code, or its bit 3 is set (R81, R84). -/
theorem decode_illegal_of_six_le {b : Byte} (hlow : 6 ≤ b.toNat % 16) : (decode b).toOption = none := by
  have hbit : b.getLsbD 3 = decide (b.toNat / 8 % 2 = 1) := by
    rw [BitVec.getLsbD, Nat.testBit_eq_decide_div_mod_eq]
  rw [decode_toOption_eq_none, hbit, decide_eq_true_eq]
  omega

/-- Settles O40: DECODE's step on the right length and on another; the frame it decodes is `frameOperand`. -/
theorem decodeCommand : Obligations.DecodeCommand := by
  refine ⟨fun s v => ⟨decode_encode (.decodeV v), fun hw hlen => ?_, fun hw hlen => ?_, fun hw => ?_⟩,
    fun b hlo hhi => decode_illegal_of_six_le (by omega)⟩
  · have hstride := (stride_bounds v).2
    have haudio : (audioOf (canon v (frameOperand s))).length = v.stride / 10 := by
      rw [length_audioOf, length_canon, length_frameOperand, hlen]
    refine ⟨frameOperand s, _, by rw [length_frameOperand, hlen],
      fun i hi b hb => getElem?_frameOperand_of_written (by rwa [hlen]) hb,
      by rw [exec_decodeV, unlessFailed_of_ne hw, decodeStep_of_length hlen], rfl, ?_,
      fun j hj => ?_, fun j hj => ?_, fun o ho => ?_, fun o ho => ?_⟩
    · rw [toNat_setDecoded_audioLen _ _ (by omega), haudio]
    · rw [read_setDecoded_audio, haudio, if_pos hj]
    · rw [read_setDecoded_audio, haudio, if_neg (not_lt.2 hj)]
    · rw [read_setDecoded_pixel, length_pixelsOf, if_pos ho]
    · rw [read_setDecoded_pixel, length_pixelsOf, if_neg (not_lt.2 ho)]
  · rw [exec_decodeV, unlessFailed_of_ne hw, decodeStep_of_other_length hlen]
    rfl
  · rw [exec_decodeV, unlessFailed_of_eq hw]

end Sys2Proof.Machine
end

section
/-! PROOF. The pixel sequence (R160 to R169, R171): the nibble expansions, the row mirror, the raw byte behind each
pixel byte, and what holds of the pixels whatever the map. -/

namespace Sys2Proof.Machine

/-! ### The nibble expansions -/

/-- `expand_hi` is the high nibble, twice (R161). -/
theorem expandHi_eq_append (b : Byte) : expandHi b = b.extractLsb' 4 4 ++ b.extractLsb' 4 4 := by
  refine BitVec.eq_of_getLsbD_eq fun i hi => ?_
  rw [expandHi, BitVec.getLsbD_append]
  interval_cases i <;> simp

/-- `expand_lo` is the low nibble, twice (R162). -/
theorem expandLo_eq_append (b : Byte) : expandLo b = b.extractLsb' 0 4 ++ b.extractLsb' 0 4 := by
  refine BitVec.eq_of_getLsbD_eq fun i hi => ?_
  rw [expandLo, BitVec.getLsbD_append]
  interval_cases i <;> simp

/-- Settles O33: the definitions are the formulas, and each result is its nibble appended to itself. -/
theorem expansionReplicatesTheNibble : Obligations.ExpansionReplicatesTheNibble := by
  intro b
  refine ⟨rfl, rfl, ?_⟩
  rw [expandHi_eq_append, expandLo_eq_append]
  exact ⟨BitVec.extractLsb'_append_eq_left, BitVec.extractLsb'_append_eq_right,
    BitVec.extractLsb'_append_eq_left, BitVec.extractLsb'_append_eq_right⟩

/-- Whichever nibble is taken, both halves of the result are equal (R171 (d)). -/
theorem expand_halves_eq (n : Nibble) (b : Byte) :
    (expand n b).extractLsb' 4 4 = (expand n b).extractLsb' 0 4 := by
  obtain ⟨-, -, hiHigh, hiLow, loHigh, loLow⟩ := expansionReplicatesTheNibble b
  cases n with
  | hi => exact hiHigh.trans hiLow.symm
  | lo => exact loHigh.trans loLow.symm

theorem expand_eq_hi_or_lo (n : Nibble) (b : Byte) : expand n b = expandHi b ∨ expand n b = expandLo b := by
  cases n with
  | hi => exact .inl rfl
  | lo => exact .inr rfl

/-! ### The row mirror -/

/-- Byte `c` of row `r` comes from byte `431 - c` of the same row, without a default (R168). -/
theorem getElem?_rowMirror_row {p : List Byte} (hp : p.length = 34560) {r c : Nat} (hr : r < 80) (hc : c < 432) :
    (rowMirror p)[432 * r + c]? = p[432 * r + (431 - c)]? := by
  have hrow : (432 * r + c) / 432 = r := by omega
  have hcol : (432 * r + c) % 432 = c := by omega
  rw [getElem?_rowMirror p (by omega), hrow, hcol, List.getElem?_eq_getElem (by omega), Option.getD_some]

/-- Two pixel sequences are equal when their 80 rows of 432 bytes are. -/
theorem pixels_ext {p q : List Byte} (hp : p.length = 34560) (hq : q.length = 34560)
    (h : ∀ r < 80, ∀ c < 432, p[432 * r + c]? = q[432 * r + c]?) : p = q := by
  refine List.ext_getElem? fun o => ?_
  by_cases ho : o < 34560
  · have hrow := h (o / 432) (by omega) (o % 432) (by omega)
    rwa [Nat.div_add_mod] at hrow
  · rw [List.getElem?_eq_none (by omega), List.getElem?_eq_none (by omega)]

theorem rowMirror_rowMirror {p : List Byte} (hp : p.length = 34560) : rowMirror (rowMirror p) = p := by
  refine pixels_ext (length_rowMirror _) hp fun r hr c hc => ?_
  rw [getElem?_rowMirror_row (length_rowMirror p) hr hc, getElem?_rowMirror_row hp hr (by omega)]
  congr 2
  omega

/-- The full reversal is the row mirror with the rows in reverse order (R169). -/
theorem getElem?_reverse_row {p : List Byte} (hp : p.length = 34560) {r c : Nat} (hr : r < 80) (hc : c < 432) :
    p.reverse[432 * r + c]? = (rowMirror p)[432 * (79 - r) + c]? := by
  rw [List.getElem?_reverse (by omega), getElem?_rowMirror_row hp (by omega) hc]
  congr 1
  omega

/-- Settles O35: each row's bytes, the involution, and the full reversal beside it. -/
theorem rowMirrorReversesEachRow : Obligations.RowMirrorReversesEachRow :=
  fun _ hp => ⟨fun _ hr _ hc => getElem?_rowMirror_row hp hr hc, rowMirror_rowMirror hp,
    fun _ hr _ hc => getElem?_reverse_row hp hr hc⟩

/-! ### The canonical frame -/

/-- The index in the raw frame of byte `i` of the canonical one (R143). -/
def rawIndex : Orient → Nat → Nat
  | .normal, i => if i % 2 = 0 then i + 1 else i - 1
  | .swapped, i => i

theorem getElem?_canon (v : Variant) {f : List Byte} (hf : f.length % 2 = 0) (i : Nat) :
    (canon v f)[i]? = f[rawIndex v.orient i]? := by
  unfold canon
  cases v.orient with
  | normal => exact getElem?_pairSwap hf i
  | swapped => rfl

/-- Undoing the orientation stays within a frame of even length. -/
theorem rawIndex_lt (o : Orient) {i n : Nat} (hn : n % 2 = 0) (hi : i < n) : rawIndex o i < n := by
  cases o with
  | normal => simp only [rawIndex]; split <;> omega
  | swapped => exact hi

/-- Undoing the orientation takes the audio slots, and no other byte, to the audio slots (R145). -/
theorem rawIndex_mod_ten (o : Orient) (i : Nat) : rawIndex o i % 10 = o.audStart ↔ i % 10 = 9 := by
  cases o with
  | normal => simp only [rawIndex, Orient.audStart]; split <;> omega
  | swapped => exact Iff.rfl

theorem mem_of_mem_canon {v : Variant} {f : List Byte} (hf : f.length % 2 = 0) {b : Byte} (hb : b ∈ canon v f) :
    b ∈ f := by
  obtain ⟨i, hi⟩ := List.mem_iff_getElem?.1 hb
  exact List.mem_of_getElem? (getElem?_canon v hf i ▸ hi)

theorem stride_mod_two (v : Variant) : v.stride % 2 = 0 := by
  have := stride_mod_ten v
  omega

/-- An audio byte is its byte of the raw frame (R145). -/
theorem getElem?_audioOf_canon {v : Variant} {f : List Byte} (hf : f.length = v.stride) {j : Nat}
    (hj : j < v.stride / 10) : (audioOf (canon v f))[j]? = f[v.orient.audStart + 10 * j]? := by
  rw [getElem?_audioOf_eq (by rwa [length_canon, hf]), getElem?_canon_audio v (hf ▸ stride_mod_two v)]

theorem length_audioOf_canon {v : Variant} {f : List Byte} (hf : f.length = v.stride) :
    (audioOf (canon v f)).length = v.stride / 10 := by
  rw [length_audioOf, length_canon, hf]

/-! ### The byte behind a pixel byte -/

/-- The byte at column byte `431 - x` of row `r` expands the nibble that the map names for `432 r + x`, in the
canonical frame read from its end (R160, R167, R168). -/
theorem exists_source_of_pixel (c : Cfg) {v : Variant} {f : List Byte} (hf : f.length = v.stride) {r x : Nat}
    (hr : r < 80) (hx : x < 432) :
    ∃ e b, (c.data.pixmap.get v.mode)[432 * r + x]? = some e ∧ e.src < v.stride
      ∧ (canon v f)[v.stride - 1 - e.src]? = some b
      ∧ (pixelsOf c.data v f)[432 * r + (431 - x)]? = some (expand e.sel b) := by
  have hmap := length_pixmap c v.mode
  have hlen : (canon v f).length = v.stride := by rw [length_canon, hf]
  obtain ⟨e, he⟩ : ∃ e, (c.data.pixmap.get v.mode)[432 * r + x]? = some e :=
    ⟨_, List.getElem?_eq_getElem (by omega)⟩
  have hsrc : e.src < v.stride := (pixmap_entry c (List.mem_of_getElem? he)).1.trans_le (stride_bounds v).1
  obtain ⟨b, hb⟩ : ∃ b, (canon v f)[v.stride - 1 - e.src]? = some b :=
    ⟨_, List.getElem?_eq_getElem (by omega)⟩
  have hcol : 431 - (431 - x) = x := by omega
  refine ⟨e, b, he, hsrc, hb, ?_⟩
  rw [pixelsOf, getElem?_rowMirror_row (by rw [length_demux, hmap]) hr (by omega), hcol, getElem?_demux, he,
    Option.map_some, List.getElem?_reverse (by rwa [hlen]), hlen, hb, Option.getD_some]

/-- Settles O34, by `exists_source_of_pixel`. -/
theorem pixelByteComesFromItsMapEntry : Obligations.PixelByteComesFromItsMapEntry := by
  intro c v f r x hf hr hx
  obtain ⟨e, b, he, hsrc, hb, hpixel⟩ := exists_source_of_pixel c hf hr hx
  refine ⟨e, b, he, hsrc, hb, hpixel.trans ?_⟩
  cases e.sel <;> rfl

/-- Every pixel byte expands a byte of the frame. -/
theorem exists_expand_of_mem_pixelsOf (c : Cfg) {v : Variant} {f : List Byte} (hf : f.length = v.stride) {b : Byte}
    (hb : b ∈ pixelsOf c.data v f) : ∃ n, ∃ a ∈ f, b = expand n a := by
  obtain ⟨o, ho, rfl⟩ := List.mem_iff_getElem.1 hb
  rw [length_pixelsOf] at ho
  obtain ⟨e, a, -, -, ha, hpixel⟩ :=
    exists_source_of_pixel c hf (r := o / 432) (x := 431 - o % 432) (by omega) (by omega)
  have hidx : 432 * (o / 432) + (431 - (431 - o % 432)) = o := by omega
  rw [hidx] at hpixel
  exact ⟨e.sel, a, mem_of_mem_canon (hf ▸ stride_mod_two v) (List.mem_of_getElem? ha),
    (List.getElem_eq_iff _).2 hpixel⟩

/-! ### Whatever the map -/

/-- A frame of one byte gives pixels that each expand that byte. -/
theorem exists_expand_of_mem_pixelsOf_replicate (c : Cfg) {v : Variant} {x b : Byte}
    (hb : b ∈ pixelsOf c.data v (List.replicate v.stride x)) : ∃ n, b = expand n x := by
  obtain ⟨n, a, ha, rfl⟩ := exists_expand_of_mem_pixelsOf c List.length_replicate hb
  exact ⟨n, by rw [List.eq_of_mem_replicate ha]⟩

/-- A byte of two equal nibbles throughout the frame is that byte throughout the pixels (R171 (a), (b)). -/
theorem pixelsOf_replicate (c : Cfg) (v : Variant) {x : Byte} (hx : ∀ n, expand n x = x) :
    pixelsOf c.data v (List.replicate v.stride x) = List.replicate 34560 x := by
  refine List.eq_replicate_iff.2 ⟨length_pixelsOf .., fun b hb => ?_⟩
  obtain ⟨n, rfl⟩ := exists_expand_of_mem_pixelsOf_replicate c hb
  exact hx n

/-- A frame of one byte gives that byte throughout the audio (R171 (c)). -/
theorem audioOf_canon_replicate (v : Variant) (x : Byte) :
    audioOf (canon v (List.replicate v.stride x)) = List.replicate (v.stride / 10) x := by
  have hf : (List.replicate v.stride x).length = v.stride := List.length_replicate
  refine List.eq_replicate_iff.2 ⟨length_audioOf_canon hf, fun b hb => ?_⟩
  obtain ⟨j, hj, rfl⟩ := List.mem_iff_getElem.1 hb
  rw [length_audioOf_canon hf] at hj
  exact List.eq_of_mem_replicate
    (List.mem_of_getElem? ((getElem?_audioOf_canon hf hj).symm.trans (List.getElem?_eq_getElem _)))

/-- Settles O36: each clause from the byte of the frame that a pixel byte expands. -/
theorem pixelsWhateverTheMap : Obligations.PixelsWhateverTheMap := by
  refine fun c v => ⟨pixelsOf_replicate c v fun n => by cases n <;> rfl,
    pixelsOf_replicate c v fun n => by cases n <;> rfl,
    fun x => ⟨audioOf_canon_replicate v x, fun b hb => ?_⟩, fun f hf b hb => ?_⟩
  · obtain ⟨n, rfl⟩ := exists_expand_of_mem_pixelsOf_replicate c hb
    exact expand_eq_hi_or_lo n x
  · obtain ⟨n, a, -, rfl⟩ := exists_expand_of_mem_pixelsOf c hf hb
    exact expand_halves_eq n a

/-! ### Independence and orientation -/

/-- A pixel map names no audio byte (X4), so that the pixels depend on the other bytes only (R171 (e)). -/
theorem pixelsOf_congr (c : Cfg) {v : Variant} {f g : List Byte} (hf : f.length = v.stride) (hg : g.length = v.stride)
    (h : ∀ i < v.stride, i % 10 ≠ v.orient.audStart → f[i]? = g[i]?) : pixelsOf c.data v f = pixelsOf c.data v g := by
  have heven := stride_mod_two v
  have hten := stride_mod_ten v
  refine pixels_ext (length_pixelsOf ..) (length_pixelsOf ..) fun r hr x hx => ?_
  have hcol : 431 - (431 - x) = x := by omega
  obtain ⟨e, b, he, hsrc, hb, hpf⟩ := exists_source_of_pixel c hf (x := 431 - x) hr (by omega)
  obtain ⟨e', b', he', -, hb', hpg⟩ := exists_source_of_pixel c hg (x := 431 - x) hr (by omega)
  obtain rfl : e = e' := Option.some.inj (he.symm.trans he')
  have hoff : (v.stride - 1 - e.src) % 10 ≠ 9 := by
    have := (pixmap_entry c (List.mem_of_getElem? he)).2
    omega
  rw [getElem?_canon v (by omega)] at hb hb'
  have hraw := h _ (rawIndex_lt v.orient heven (by omega)) (mt (rawIndex_mod_ten v.orient _).1 hoff)
  obtain rfl : b = b' := Option.some.inj (hb.symm.trans (hraw.trans hb'))
  rw [hcol] at hpf hpg
  exact hpf.trans hpg.symm

/-- The audio depends on the audio slots only (R171 (e)). -/
theorem audioOf_canon_congr {v : Variant} {f g : List Byte} (hf : f.length = v.stride) (hg : g.length = v.stride)
    (h : ∀ i < v.stride, i % 10 = v.orient.audStart → f[i]? = g[i]?) :
    audioOf (canon v f) = audioOf (canon v g) := by
  have haud : v.orient.audStart < 10 := by cases v.orient <;> decide
  refine List.ext_getElem? fun j => ?_
  by_cases hj : j < v.stride / 10
  · rw [getElem?_audioOf_canon hf hj, getElem?_audioOf_canon hg hj, h _ (by omega) (by omega)]
  · rw [List.getElem?_eq_none (by rw [length_audioOf_canon hf]; omega),
      List.getElem?_eq_none (by rw [length_audioOf_canon hg]; omega)]

/-- Settles O38: the two congruences. -/
theorem audioAndPixelsAreIndependent : Obligations.AudioAndPixelsAreIndependent :=
  fun c _ _ _ hf hg => ⟨pixelsOf_congr c hf hg, audioOf_canon_congr hf hg⟩

/-- After the pair swap nothing but the mode tells a Normal variant from a Swapped one (R143). -/
theorem decodeFrame_eq_of_pairSwap (c : CfgData) (n s : Variant) (hmode : n.mode = s.mode) (hn : n.orient = .normal)
    (hs : s.orient = .swapped) (f : List Byte) : decodeFrame c n f = decodeFrame c s (pairSwap f) := by
  have hcanon : canon n f = canon s (pairSwap f) := by simp only [canon, hn, hs]
  rw [decodeFrame, decodeFrame, pixelsOf, pixelsOf, hcanon, hmode]

/-- Settles O37: the Normal and the Swapped variant of each mode. -/
theorem orientationIsUndoneFirst : Obligations.OrientationIsUndoneFirst :=
  fun c f => ⟨decodeFrame_eq_of_pairSwap c .monoN .monoS rfl rfl rfl f,
    decodeFrame_eq_of_pairSwap c .colorN .colorS rfl rfl rfl f,
    decodeFrame_eq_of_pairSwap c .xpN .xpS rfl rfl rfl f⟩

end Sys2Proof.Machine
end

section
/-! PROOF. One WSTEP: what it looks up, what it makes of the answer (R192 to R197), and the rows it can take (R199). -/

namespace Sys2Proof.Machine

/-! ### Accepting a frame -/

theorem toNat_accept_drift {s : State} {p : Nat} {v : Variant} {d : Nat} (h : p + v.stride ≤ s.srcLen.toNat)
    (hd : d ≤ p) : (accept p v d s).drift.toNat = d := by
  have := s.srcLen.isLt
  rw [accept_drift, BitVec.toNat_ofNat, Nat.mod_eq_of_lt (by omega)]

theorem alignedAt_eq (p : Nat) : alignedAt p = decide (p % 2352 = 0) := by
  rw [alignedAt, Bool.beq_eq_decide_eq]

/-- Settles O19: the three offsets lie below a word's end, and the other fields are `accept`'s own. -/
theorem acceptRecordsTheFrame : Obligations.AcceptRecordsTheFrame :=
  fun _ p d _ hfit hd => ⟨toNat_accept_curOff hfit d, rfl, toNat_accept_expected hfit d, toNat_accept_drift hfit hd,
    alignedAt_eq p, rfl, rfl, rfl, rfl, rfl⟩

/-! ### What a WSTEP looks up -/

/-- What WSTEP asks the locator: the window from `START`, the one offset `EXPECTED`, or the rest of the source from
`EXPECTED` on (R194 to R196). -/
def State.walkScan (s : State) : Option (Nat × Variant) :=
  match s.wst with
  | .seeking => locate s s.start.toNat (s.start.toNat + s.cfg.data.seekWindow)
  | .locked => locate s s.expected.toNat (s.expected.toNat + 1)
  | .resyncing => locate s s.expected.toNat s.srcLen.toNat
  | .exhausted | .failed => none

/-- The drift WSTEP records for a frame at `p` (R198). -/
def State.driftAt (s : State) (p : Nat) : Nat := if s.wst = .resyncing then p - s.expected.toNat else 0

/-- The cause of a walk that ends (R193). -/
def State.endCause (s : State) : Cause := if s.wst = .seeking then .notFound else .exhausted

theorem walkScan_seeking {s : State} (hw : s.wst = .seeking) :
    s.walkScan = locate s s.start.toNat (s.start.toNat + s.cfg.data.seekWindow) := by
  rw [State.walkScan, hw]

theorem walkScan_locked {s : State} (hw : s.wst = .locked) :
    s.walkScan = locate s s.expected.toNat (s.expected.toNat + 1) := by
  rw [State.walkScan, hw]

theorem walkScan_resyncing {s : State} (hw : s.wst = .resyncing) :
    s.walkScan = locate s s.expected.toNat s.srcLen.toNat := by
  rw [State.walkScan, hw]

/-- A marker found is accepted if its whole frame lies in the source, and ends the walk if not (R193). -/
theorem walkStep_of_found {s : State} {p : Nat} {v : Variant} (h : s.walkScan = some (p, v)) :
    walkStep s = if p + v.stride ≤ s.srcLen.toNat then accept p v (s.driftAt p) s else raise s.endCause s := by
  cases hw : s.wst with
  | seeking =>
    rw [walkScan_seeking hw] at h
    simp [walkStep, stepSeeking, startOperand, wholeFrame, State.driftAt, State.endCause, hw, h]
  | locked =>
    rw [walkScan_locked hw] at h
    simp [walkStep, stepLocked, expectedOperand, wholeFrame, State.driftAt, State.endCause, hw, h]
  | resyncing =>
    rw [walkScan_resyncing hw] at h
    simp [walkStep, stepResyncing, expectedOperand, wholeFrame, State.driftAt, State.endCause, hw, h]
  | exhausted | failed => simp [State.walkScan, hw] at h

theorem walkStep_of_fits {s : State} {p : Nat} {v : Variant} (h : s.walkScan = some (p, v))
    (hfit : p + v.stride ≤ s.srcLen.toNat) : walkStep s = accept p v (s.driftAt p) s := by
  rw [walkStep_of_found h, if_pos hfit]

theorem walkStep_of_short {s : State} {p : Nat} {v : Variant} (h : s.walkScan = some (p, v))
    (hshort : s.srcLen.toNat < p + v.stride) : walkStep s = raise s.endCause s := by
  rw [walkStep_of_found h, if_neg hshort.not_ge]

/-- A hop that finds no marker is missed (R195). -/
theorem walkStep_of_missed {s : State} (hw : s.wst = .locked) (h : s.walkScan = none) :
    walkStep s = hopMissed s := by
  rw [walkScan_locked hw] at h
  simp [walkStep, hw, stepLocked, expectedOperand, h]

/-- A scan that finds no marker ends the walk (R194, R196). -/
theorem walkStep_of_not_found {s : State} (hw : s.wst = .seeking ∨ s.wst = .resyncing) (h : s.walkScan = none) :
    walkStep s = raise s.endCause s := by
  obtain hw | hw := hw
  · rw [walkScan_seeking hw] at h
    simp [walkStep, hw, stepSeeking, startOperand, h, State.endCause]
  · rw [walkScan_resyncing hw] at h
    simp [walkStep, hw, stepResyncing, expectedOperand, h, State.endCause]

theorem walkStep_of_exhausted {s : State} (hw : s.wst = .exhausted) : walkStep s = clearEmit s := by
  rw [walkStep, hw]

/-! ### WSTEP in each walker state -/

theorem exec_wstep_of_ne {s : State} (hw : s.wst ≠ .failed) : exec .wstep s = .next (walkStep s) := by
  rw [exec_wstep, unlessFailed_of_ne hw]

/-- Settles O44: `walkStep` in Exhausted; in Failed the command is ignored. -/
theorem wstepTerminal : Obligations.WstepTerminal := by
  refine fun s => ⟨fun hw => ?_, fun hw => ?_⟩
  · rw [exec_wstep_of_ne (by simp [hw]), walkStep_of_exhausted hw]
    rfl
  · rw [exec_wstep, unlessFailed_of_eq hw]

/-- `SEEK_WINDOW` is the largest stride of the priority list (R6). -/
theorem seekWindow_eq {c : CfgData} {window : Nat} (hle : ∀ v ∈ c.priority, v.stride ≤ window)
    (hmem : ∃ v ∈ c.priority, v.stride = window) : c.seekWindow = window := by
  refine le_antisymm (List.max_le_of_forall_le _ _ ?_) (List.le_max_of_le (List.mem_map.2 hmem) le_rfl)
  simpa using hle

/-- Settles O41: the window of the scan is `seekWindow`, which is the largest stride. -/
theorem wstepSeeking : Obligations.WstepSeeking := by
  refine ⟨decode_encode .wstep, fun s window hw hle hmem => ?_⟩
  have hexec := exec_wstep_of_ne (s := s) (by simp [hw])
  have hcause : s.endCause = .notFound := if_pos hw
  have hdrift (p : Nat) : s.driftAt p = 0 := if_neg (by simp [hw])
  rw [← seekWindow_eq hle hmem, ← walkScan_seeking hw, hexec]
  refine ⟨fun p v h hfit => ?_, fun p v h hshort => ?_, fun h => ?_⟩
  · rw [walkStep_of_fits h hfit, hdrift]
  · rw [walkStep_of_short h hshort, hcause]
  · rw [walkStep_of_not_found (.inl hw) h, hcause]

/-- Settles O43: the scan goes forward from `EXPECTED`, so that the drift is no cut-off difference. -/
theorem wstepResyncing : Obligations.WstepResyncing := by
  refine fun s hw => ?_
  have hexec := exec_wstep_of_ne (s := s) (by simp [hw])
  have hcause : s.endCause = .exhausted := if_neg (by simp [hw])
  have hdrift (p : Nat) : s.driftAt p = p - s.expected.toNat := if_pos hw
  rw [← walkScan_resyncing hw, hexec]
  refine ⟨fun p v h hfit => ⟨?_, ?_⟩, fun p v h hshort => ?_, fun h => ?_⟩
  · rw [walkStep_of_fits h hfit, hdrift]
  · exact (locate_some_spec (walkScan_resyncing hw ▸ h)).1
  · rw [walkStep_of_short h hshort, hcause]
  · rw [walkStep_of_not_found (.inr hw) h, hcause]

/-- A window of one offset holds the marker at that offset, or none (R124). -/
theorem locate_one (s : State) (p : Nat) : locate s p (p + 1) = (markerAt s p).map (p, ·) := by
  refine Option.ext fun ⟨q, v⟩ => ?_
  rw [locate_eq_some, Option.map_eq_some_iff]
  constructor
  · rintro ⟨hle, hlt, hm, -⟩
    obtain rfl : q = p := by omega
    exact ⟨v, hm, rfl⟩
  · rintro ⟨u, hm, he⟩
    cases he
    exact ⟨le_rfl, p.lt_succ_self, hm, fun r _ _ => by omega⟩

theorem walkScan_locked_eq {s : State} (hw : s.wst = .locked) :
    s.walkScan = (markerAt s s.expected.toNat).map (s.expected.toNat, ·) := by
  rw [walkScan_locked hw, locate_one]

theorem markerAt_eq_none_of {s : State} {p : Nat} (h : seedHit s p = false ∨ classify s p = none) :
    markerAt s p = none := by
  rw [markerAt_eq_none]
  rintro ⟨hit, hv⟩
  obtain h | h := h <;> simp [h] at hit hv

/-- Settles O42: the hop's window is the one offset `EXPECTED`. -/
theorem wstepLocked : Obligations.WstepLocked := by
  refine fun s hw => ?_
  have hexec := exec_wstep_of_ne (s := s) (by simp [hw])
  have hcause : s.endCause = .exhausted := if_neg (by simp [hw])
  have hdrift (p : Nat) : s.driftAt p = 0 := if_neg (by simp [hw])
  have hscan := walkScan_locked_eq hw
  rw [hexec]
  refine ⟨fun v hit hv hfit => ?_, fun v hit hv hshort => ?_, fun hno => ?_⟩
  · rw [markerAt_eq_some.2 ⟨hit, hv⟩] at hscan
    rw [walkStep_of_fits hscan hfit, hdrift]
  · rw [markerAt_eq_some.2 ⟨hit, hv⟩] at hscan
    rw [walkStep_of_short hscan hshort, hcause]
  · rw [markerAt_eq_none_of hno] at hscan
    rw [walkStep_of_missed hw hscan]
    rfl

/-! ### What a WSTEP can do -/

/-- Settles O45: `walkStep_cases` names the walker states and EMIT of each row, and the invariants the cause. -/
theorem wstepTakesATableRow : Obligations.WstepTakesATableRow := by
  intro s t h ht
  cases ht
  obtain ⟨hw, e⟩ | ⟨hf, e⟩ := unlessFailed_cases s walkStep <;> rw [e]
  · simp [hw, (h.failedOut hw).1]
  obtain ⟨p, v, d, e, -, -, hfrom⟩ | ⟨e, hw⟩ | ⟨e, hw⟩ | ⟨e, hw⟩ | ⟨e, hw⟩ | ⟨-, hw⟩ := walkStep_cases s
  · obtain ⟨hw, -⟩ | ⟨hw, -⟩ | ⟨hw, -⟩ := hfrom
    · simp [e, hw, (h.seeking hw).2.2]
    · simp [e, hw, (h.walking (.inl hw)).2.2]
    · simp [e, hw, (h.walking (.inr hw)).2.2]
  · simp [e, hw, (h.walking (.inl hw)).2.2]
  · simp [e, hw, Cause.endState]
  · obtain hw | hw := hw <;> simp [e, hw, Cause.endState]
  · simp [e, hw, h.exhaustedCause hw]
  · exact absurd hw hf

/-- Settles O46: each update of `walkStep_cases` writes walker registers only. -/
theorem wstepLeavesThePrimitivesAlone : Obligations.WstepLeavesThePrimitivesAlone := by
  intro s t ht
  cases ht
  obtain ⟨-, e⟩ | ⟨-, e⟩ := unlessFailed_cases s walkStep <;> rw [e]
  obtain ⟨p, v, d, e, -⟩ | ⟨e, -⟩ | ⟨e, -⟩ | ⟨e, -⟩ | ⟨e, -⟩ | ⟨e, -⟩ := walkStep_cases s <;> rw [e] <;> rfl

/-! ### The bound on a walk -/

/-- How many WSTEPs the walk can still take: two for each frame that the rest of the source has room for, and the two
that find its end (R203). -/
def State.stepsLeft (s : State) : Nat :=
  match s.wst with
  | .seeking => 2 * (s.srcLen.toNat / 19600) + 2
  | .locked => 2 * ((s.srcLen.toNat - s.expected.toNat) / 19600) + 2
  | .resyncing => 2 * ((s.srcLen.toNat - s.expected.toNat) / 19600) + 1
  | .exhausted | .failed => 0

theorem stepsLeft_raise {x : Cause} (s : State) : (raise x s).stepsLeft = 0 := by
  cases x <;> rfl

theorem stepsLeft_accept {s : State} {p : Nat} {v : Variant} (hfit : p + v.stride ≤ s.srcLen.toNat) (d : Nat) :
    (accept p v d s).stepsLeft = 2 * ((s.srcLen.toNat - (p + v.stride)) / 19600) + 2 := by
  rw [← toNat_accept_expected hfit d]
  rfl

/-- Every WSTEP before the end brings the end nearer. -/
theorem stepsLeft_walkStep_lt {s : State} (ht : s.wst.terminal = false) : (walkStep s).stepsLeft < s.stepsLeft := by
  obtain ⟨p, v, d, e, -, hfit, hfrom⟩ | ⟨e, hw⟩ | ⟨e, hw⟩ | ⟨e, hw⟩ | ⟨-, hw⟩ | ⟨-, hw⟩ := walkStep_cases s
  · have hstride := (stride_bounds v).1
    rw [e, stepsLeft_accept hfit]
    obtain ⟨hw, -⟩ | ⟨hw, hp, -⟩ | ⟨hw, hp, -⟩ := hfrom <;> simp only [State.stepsLeft, hw] <;> omega
  · rw [e]
    simp [State.stepsLeft, hw]
  · rw [e, stepsLeft_raise]
    simp [State.stepsLeft, hw]
  · rw [e, stepsLeft_raise]
    obtain hw | hw := hw <;> simp [State.stepsLeft, hw]
  · simp [hw, Wst.terminal] at ht
  · simp [hw, Wst.terminal] at ht

theorem Wst.ne_of_not_terminal {w : Wst} (h : w.terminal = false) : w ≠ .exhausted ∧ w ≠ .failed := by
  constructor <;> rintro rfl <;> cases h

/-- A walk is over after as many WSTEPs as `stepsLeft` says. -/
theorem exists_terminal_of_stepsLeft_le {s : State} {k : Nat} (hk : s.stepsLeft ≤ k) :
    ∃ n t, n ≤ k ∧ execAll (List.replicate n .wstep) s = .next t ∧ t.wst.terminal = true := by
  induction k generalizing s with
  | zero =>
    refine ⟨0, s, le_rfl, rfl, by_contra fun ht => ?_⟩
    have := stepsLeft_walkStep_lt (Bool.eq_false_of_not_eq_true ht)
    omega
  | succ k ih =>
    cases ht : s.wst.terminal with
    | true => exact ⟨0, s, k.succ.zero_le, rfl, ht⟩
    | false =>
      have hlt := stepsLeft_walkStep_lt ht
      obtain ⟨n, t, hn, hexec, hend⟩ := ih (s := walkStep s) (by omega)
      refine ⟨n + 1, t, by omega, ?_, hend⟩
      rw [List.replicate_succ, execAll, exec_wstep_of_ne (Wst.ne_of_not_terminal ht).2]
      exact hexec

/-- Settles O57: the bound is `stepsLeft` of Seeking. -/
theorem walkEndsWithinTheBound : Obligations.WalkEndsWithinTheBound :=
  fun _ _ hw => exists_terminal_of_stepsLeft_le (by rw [State.stepsLeft, hw])

end Sys2Proof.Machine
end

section
/-! PROOF. Under P-PREFIX the seed filter turns no marker away (R122, R196). -/

namespace Sys2Proof.Machine

theorem audStart_ge (o : Orient) : 8 ≤ o.audStart := by
  cases o <;> decide

/-- With no XP mask position below 8 the mask leaves the seed's eight bytes alone. -/
theorem maskPos_eq_false_of_lt {c : CfgData} (hn : ∀ i ∈ c.xpMaskN, 8 ≤ i) (hs : ∀ i ∈ c.xpMaskS, 8 ≤ i)
    (v : Variant) (len : Nat) {i : Nat} (hi : i < 8) : maskPos c v len i = false := by
  refine Bool.eq_false_iff.2 fun h => ?_
  obtain ⟨-, ⟨-, hmem⟩ | ⟨-, hle, -⟩⟩ := maskPos_eq_true.1 h
  · have : 8 ≤ i := by
      cases ho : v.orient with
      | normal => exact hn i (by rwa [ho] at hmem)
      | swapped => exact hs i (by rwa [ho] at hmem)
    omega
  · have := audStart_ge v.orient
    omega

theorem length_seedOf (c : Cfg) (o : Orient) : (c.data.seedOf o).length = 8 := by
  cases o with
  | normal => exact (length_seeds c).1
  | swapped => exact (length_seeds c).2

theorem seedHit_of_seedOf {s : State} {p : Nat} {o : Orient} (h : memRead s p seedLen = some (s.cfg.data.seedOf o)) :
    seedHit s p = true := by
  cases o with
  | normal => exact seedHit_eq_true.2 (.inl h)
  | swapped => exact seedHit_eq_true.2 (.inr h)

/-- Settles O29: the marker's first eight bytes are its seed, and the match compares them unmasked. -/
theorem seedFilterTurnsNoMarkerAway : Obligations.SeedFilterTurnsNoMarkerAway := by
  intro s p hprefix hn hs v hv
  obtain ⟨hmem, hmatch⟩ := classify_mem hv
  obtain ⟨hfit, hbytes⟩ := (matchComparesOffTheMask s v p).1 hmatch
  have hlen := (markerLen_bounds s.cfg v).1
  refine seedHit_of_seedOf (o := v.orient) ((memRead_eq_some_iff_forall (length_seedOf s.cfg _)).2 ⟨?_, fun i hi => ?_⟩)
  · omega
  · rw [← hprefix v hmem, List.getElem?_take_of_lt hi]
    exact hbytes i (by omega) (maskPos_eq_false_of_lt hn hs v _ hi)

end Sys2Proof.Machine
end

section
/-! PROOF. The drift of a resync (R202), and what the walk of one NEXT looks up and makes of it (R200). -/

namespace Sys2Proof.Machine

/-! ### The scan depends on the source alone -/

theorem memRead_congr {s t : State} (h : s.SameSource t) (hlen : t.srcLen = s.srcLen) (a n : Nat) :
    memRead t a n = memRead s a n := by
  rw [memRead, memRead, h.2, hlen]

theorem seedHit_congr {s t : State} (h : s.SameSource t) (hlen : t.srcLen = s.srcLen) (p : Nat) :
    seedHit t p = seedHit s p := by
  simp only [seedHit, probe_eq, memRead_congr h hlen, h.1]

theorem matchesAt_congr {s t : State} (h : s.SameSource t) (hlen : t.srcLen = s.srcLen) (v : Variant) (p : Nat) :
    matchesAt t v p = matchesAt s v p := by
  rw [Bool.eq_iff_iff, matchesAt_eq_true, matchesAt_eq_true, h.1, memRead_congr h hlen]

theorem markerAt_congr {s t : State} (h : s.SameSource t) (hlen : t.srcLen = s.srcLen) (p : Nat) :
    markerAt t p = markerAt s p := by
  simp only [markerAt, seedHit_congr h hlen, classify, matchesAt_congr h hlen, h.1]

theorem locate_congr {s t : State} (h : s.SameSource t) (hlen : t.srcLen = s.srcLen) (a l : Nat) :
    locate t a l = locate s a l := by
  refine Option.ext fun ⟨q, v⟩ => ?_
  simp only [locate_eq_some, markerAt_congr h hlen]

theorem locate_hopMissed (s : State) (a l : Nat) : locate (hopMissed s) a l = locate s a l :=
  locate_congr (sameSource_hopMissed s) rfl a l

/-! ### The drift of a resync -/

/-- After a missed hop the next WSTEP looks from the same `EXPECTED` on (R195, R196). -/
theorem walkScan_hopMissed (s : State) :
    (hopMissed s).walkScan = locate s s.expected.toNat s.srcLen.toNat := by
  rw [walkScan_resyncing (hopMissed_wst s), locate_hopMissed, hopMissed_expected, hopMissed_srcLen]

theorem driftAt_hopMissed (s : State) (p : Nat) : (hopMissed s).driftAt p = p - s.expected.toNat :=
  if_pos (hopMissed_wst s)

/-- Settles O56: the hop misses, and the first marker of the scan stands `d` bytes on. -/
theorem resyncReportsTheDrift : Obligations.ResyncReportsTheDrift := by
  intro s d v hw hd hnone hit hv hfit
  have hmiss : walkStep s = hopMissed s := by
    refine walkStep_of_missed hw ?_
    rw [walkScan_locked_eq hw, markerAt_eq_none_of (hnone _ le_rfl (by omega)), Option.map_none]
  have hscan : (hopMissed s).walkScan = some (s.expected.toNat + d, v) := by
    have := (stride_bounds v).1
    rw [walkScan_hopMissed, locate_eq_some]
    exact ⟨by omega, by omega, markerAt_eq_some.2 ⟨hit, hv⟩, fun q hq hlt => markerAt_eq_none_of (hnone q hq hlt)⟩
  have haccept := walkStep_of_fits hscan hfit
  rw [driftAt_hopMissed, Nat.add_sub_cancel_left] at haccept
  refine ⟨hopMissed s, _, hmiss ▸ exec_wstep_of_ne (by simp [hw]), rfl, rfl,
    haccept ▸ exec_wstep_of_ne (by simp), rfl, rfl, ?_, ?_, rfl⟩
  · exact toNat_accept_drift (s := hopMissed s) hfit (by omega)
  · exact toNat_accept_curOff (s := hopMissed s) hfit d

/-! ### The walk of one NEXT -/

/-- The state from which the last WSTEP of a NEXT looks: where the hop is missed, the one it leaves (R200). -/
def State.lastLook (s : State) : State := if s.wst = .locked ∧ s.walkScan = none then hopMissed s else s

theorem lastLook_cases (s : State) :
    (s.lastLook = s ∧ ¬(s.wst = .locked ∧ s.walkScan = none))
    ∨ (s.lastLook = hopMissed s ∧ s.wst = .locked ∧ s.walkScan = none) := by
  by_cases h : s.wst = .locked ∧ s.walkScan = none
  · exact .inr ⟨if_pos h, h⟩
  · exact .inl ⟨if_neg h, h⟩

/-- Where the last look finds a marker: that of the scan its walker state asks for, or after a missed hop that of the
forward scan (R194 to R196). -/
theorem walkScan_lastLook {s : State} {p : Nat} {v : Variant} :
    s.lastLook.walkScan = some (p, v) ↔
      (s.wst = .seeking ∧ locate s s.start.toNat (s.start.toNat + s.cfg.data.seekWindow) = some (p, v))
      ∨ (s.wst = .locked ∧ locate s s.expected.toNat (s.expected.toNat + 1) = some (p, v))
      ∨ (s.wst = .locked ∧ locate s s.expected.toNat (s.expected.toNat + 1) = none
          ∧ locate s s.expected.toNat s.srcLen.toNat = some (p, v))
      ∨ (s.wst = .resyncing ∧ locate s s.expected.toNat s.srcLen.toNat = some (p, v)) := by
  obtain ⟨e, hlook⟩ | ⟨e, hw, hnone⟩ := lastLook_cases s
  · rw [e]
    cases hw : s.wst with
    | seeking => simp [walkScan_seeking hw]
    | locked =>
      have hfound : s.walkScan ≠ none := fun h => hlook ⟨hw, h⟩
      rw [walkScan_locked hw] at hfound ⊢
      simp [hfound]
    | resyncing => simp [walkScan_resyncing hw]
    | exhausted | failed => simp [State.walkScan, hw]
  · rw [e, walkScan_hopMissed]
    rw [walkScan_locked hw] at hnone
    simp [hw, hnone]

/-- From a walk that has not ended the last look finds a whole frame, which is accepted, or ends the walk. -/
theorem walkStep_lastLook {s : State} (ht : s.wst.terminal = false) :
    (∃ p v, s.lastLook.walkScan = some (p, v) ∧ p + v.stride ≤ s.srcLen.toNat
      ∧ walkStep s.lastLook = accept p v (s.lastLook.driftAt p) s.lastLook)
    ∨ ((∀ p v, s.lastLook.walkScan = some (p, v) → s.srcLen.toNat < p + v.stride)
      ∧ walkStep s.lastLook = raise s.lastLook.endCause s.lastLook) := by
  have hlen : s.lastLook.srcLen = s.srcLen := by
    obtain ⟨e, -⟩ | ⟨e, -⟩ := lastLook_cases s <;> rw [e]
    rfl
  cases h : s.lastLook.walkScan with
  | some r =>
    obtain ⟨p, v⟩ := r
    by_cases hfit : p + v.stride ≤ s.srcLen.toNat
    · exact .inl ⟨p, v, rfl, hfit, walkStep_of_fits h (hlen ▸ hfit)⟩
    · refine .inr ⟨fun q u hq => ?_, walkStep_of_short h (hlen ▸ not_le.1 hfit)⟩
      cases hq
      exact not_le.1 hfit
  | none =>
    refine .inr ⟨nofun, walkStep_of_not_found ?_ h⟩
    obtain ⟨e, hlook⟩ | ⟨e, -⟩ := lastLook_cases s <;> rw [e] at h ⊢
    · cases hw : s.wst with
      | seeking => exact .inl rfl
      | locked => exact absurd ⟨hw, h⟩ hlook
      | resyncing => exact .inr rfl
      | exhausted | failed => simp [hw, Wst.terminal] at ht
    · exact .inr rfl

theorem endState_terminal (x : Cause) : x.endState = .exhausted ∨ x.endState = .failed := by
  cases x <;> simp [Cause.endState]

/-- NEXT's repeat is the WSTEP from the last look. -/
theorem walkUntil_two_eq {s : State} (ht : s.wst.terminal = false) : walkUntil 2 s = walkStep s.lastLook := by
  obtain ⟨e, hlook⟩ | ⟨e, hw, hnone⟩ := lastLook_cases s
  · have hdone : walkDone (walkStep s) = true := by
      obtain ⟨p, v, -, -, h⟩ | ⟨-, h⟩ := walkStep_lastLook ht <;> rw [e] at h <;> rw [h]
      · rfl
      · obtain hend | hend := endState_terminal s.endCause <;> simp [walkDone, hend]
    rw [walkUntil, if_pos hdone, e]
  · have hmiss := walkStep_of_missed hw hnone
    have hdone : walkDone (walkStep s) = false := by rw [hmiss]; rfl
    rw [walkUntil, hdone, e, walkUntil, hmiss]
    simp [walkUntil]

end Sys2Proof.Machine
end

section
/-! PROOF. NEXT (R200): its script, the frame it delivers, what it leaves alone, and how the offsets grow (R202). -/

namespace Sys2Proof.Machine

/-! ### The delivery -/

/-- FETCH and DECODE of the located frame, where neither raises (R147, R148, R200). -/
def State.withDelivery (s : State) : State :=
  (s.setFrame s.locatedFrame).setDecoded (audioOf (canon s.curVar s.locatedFrame))
    (pixelsOf s.cfg.data s.curVar s.locatedFrame)

theorem length_locatedFrame_lt (s : State) : s.locatedFrame.length < 2 ^ 32 := by
  have := (stride_bounds s.curVar).2
  rw [length_locatedFrame]
  omega

/-- DECODE's operand after a FETCH is the frame fetched, whatever FRAME held before. -/
theorem frameOperand_setFrame (s : State) {bs : List Byte} (h : bs.length < 2 ^ 32) :
    frameOperand (s.setFrame bs) = bs := by
  have hlen := toNat_setFrame_frameLen s h
  refine List.ext_getElem? fun i => ?_
  by_cases hi : i < bs.length
  · rw [getElem?_frameOperand _ (by rwa [hlen]), read_setFrame, if_pos hi, List.getElem?_eq_getElem hi,
      Option.getD_some]
  · rw [List.getElem?_eq_none (by rw [length_frameOperand, hlen]; omega), List.getElem?_eq_none (by omega)]

/-- With a whole frame located the delivery does not raise. -/
theorem deliver_of_fits {s : State} (hw : s.wst ≠ .failed) (hv : s.curValid = true)
    (hfit : s.curOff.toNat + s.curVar.stride ≤ s.srcLen.toNat) : deliver s = s.withDelivery := by
  have hlt := length_locatedFrame_lt s
  have hlen : (s.setFrame s.locatedFrame).frameLen.toNat = s.curVar.stride := by
    rw [toNat_setFrame_frameLen s hlt, length_locatedFrame]
  rw [deliver, fetchStep_of_fits hv hfit, unlessFailed_of_ne (s := s.setFrame s.locatedFrame) hw,
    decodeStep_of_length hlen, frameOperand_setFrame s hlt]
  rfl

theorem length_audio_locatedFrame (s : State) :
    (audioOf (canon s.curVar s.locatedFrame)).length = s.curVar.stride / 10 :=
  length_audioOf_canon (length_locatedFrame s)

theorem toNat_withDelivery_frameLen (s : State) : s.withDelivery.frameLen.toNat = s.curVar.stride := by
  rw [State.withDelivery, setDecoded_frameLen, toNat_setFrame_frameLen s (length_locatedFrame_lt s),
    length_locatedFrame]

theorem toNat_withDelivery_audioLen (s : State) : s.withDelivery.audioLen.toNat = s.curVar.stride / 10 := by
  have := (stride_bounds s.curVar).2
  rw [State.withDelivery, toNat_setDecoded_audioLen _ _ (by rw [length_audio_locatedFrame]; omega),
    length_audio_locatedFrame]

theorem read_withDelivery_frame (s : State) (i : Nat) :
    Memory.read s.withDelivery.frame i =
      if i < s.curVar.stride then s.locatedFrame[i]? else Memory.read s.frame i := by
  rw [State.withDelivery, setDecoded_frame, read_setFrame, length_locatedFrame]

theorem read_withDelivery_audio (s : State) (j : Nat) :
    Memory.read s.withDelivery.audio j =
      if j < s.curVar.stride / 10 then (audioOf (canon s.curVar s.locatedFrame))[j]?
      else Memory.read s.audio j := by
  rw [State.withDelivery, read_setDecoded_audio, length_audio_locatedFrame, setFrame_audio]

theorem read_withDelivery_pixel (s : State) (o : Nat) :
    Memory.read s.withDelivery.pixel o =
      if o < 34560 then (pixelsOf s.cfg.data s.curVar s.locatedFrame)[o]? else Memory.read s.pixel o := by
  rw [State.withDelivery, read_setDecoded_pixel, length_pixelsOf, setFrame_pixel]

/-! ### What NEXT can do -/

theorem exec_next_of_not_terminal {s : State} (ht : s.wst.terminal = false) :
    exec .next s =
      .next (if (walkStep s.lastLook).emit then deliver (walkStep s.lastLook) else clearOut (walkStep s.lastLook)) := by
  obtain ⟨hx, hf⟩ := Wst.ne_of_not_terminal ht
  rw [exec_next, unlessFailed_of_ne hf, nextStep, if_neg hx, walkUntil_two_eq ht]

theorem exec_next_of_exhausted {s : State} (hw : s.wst = .exhausted) :
    exec .next s = .next (clearOut (clearEmit s)) := by
  rw [exec_next, unlessFailed_of_ne (by simp [hw]), nextStep, if_pos hw]

theorem exec_next_of_failed {s : State} (hw : s.wst = .failed) : exec .next s = .next s := by
  rw [exec_next, unlessFailed_of_eq hw]

theorem srcLen_lastLook (s : State) : s.lastLook.srcLen = s.srcLen := by
  obtain ⟨e, -⟩ | ⟨e, -⟩ := lastLook_cases s <;> rw [e]
  rfl

/-- From a walk that has not ended NEXT delivers the whole frame that its last look finds, or ends the walk. -/
theorem exec_next_cases {s : State} (ht : s.wst.terminal = false) :
    (∃ p v, s.lastLook.walkScan = some (p, v) ∧ p + v.stride ≤ s.srcLen.toNat
      ∧ exec .next s = .next (accept p v (s.lastLook.driftAt p) s.lastLook).withDelivery)
    ∨ ((∀ p v, s.lastLook.walkScan = some (p, v) → s.srcLen.toNat < p + v.stride)
      ∧ exec .next s = .next (clearOut (raise s.lastLook.endCause s.lastLook))) := by
  rw [exec_next_of_not_terminal ht]
  obtain ⟨p, v, hscan, hfit, e⟩ | ⟨hno, e⟩ := walkStep_lastLook ht <;> rw [e]
  · have hlook : p + v.stride ≤ s.lastLook.srcLen.toNat := by rwa [srcLen_lastLook]
    refine .inl ⟨p, v, hscan, hfit, ?_⟩
    rw [accept_emit, if_pos rfl, deliver_of_fits (by simp) rfl (by rwa [toNat_accept_curOff hlook])]
  · exact .inr ⟨hno, rfl⟩

/-! ### The script -/

theorem execAll_fetch_decode {t : State} (hw : t.wst ≠ .failed) (v : Variant) :
    execAll [.fetch, .decodeV v] t = .next (unlessFailed (fetchStep t) (decodeStep v)) := by
  simp only [execAll, exec_fetch, exec_decodeV, unlessFailed_of_ne hw]

/-- The last look is reached by no WSTEP, or by one that misses its hop. -/
theorem execAll_wstep_lastLook {s : State} (ht : s.wst.terminal = false) :
    execAll [.wstep] s = .next (walkStep s.lastLook)
      ∨ (s.wst = .locked ∧ exec .wstep s = .next (hopMissed s)
        ∧ execAll [.wstep, .wstep] s = .next (walkStep s.lastLook)) := by
  have hexec := exec_wstep_of_ne (Wst.ne_of_not_terminal ht).2
  obtain ⟨e, -⟩ | ⟨e, hw, hnone⟩ := lastLook_cases s
  · exact .inl (by rw [execAll, hexec, e]; rfl)
  · rw [walkStep_of_missed hw hnone] at hexec
    exact .inr ⟨hw, hexec, by rw [execAll, hexec, e]; rfl⟩

/-- Settles O47: the state after the last look. -/
theorem nextIsItsScript : Obligations.NextIsItsScript := by
  refine ⟨decode_encode .next, fun s => ⟨exec_next_of_failed, exec_next_of_exhausted, fun ht => ?_⟩⟩
  have hnext := exec_next_of_not_terminal ht
  refine ⟨walkStep s.lastLook, execAll_wstep_lastLook ht, ?_, fun he => ?_, fun he => ?_⟩
  · obtain ⟨p, v, -, -, e⟩ | ⟨-, e⟩ := walkStep_lastLook ht <;> rw [e]
    · exact .inl rfl
    · exact .inr (endState_terminal _)
  · have hw : (walkStep s.lastLook).wst ≠ .failed := by
      obtain ⟨p, v, -, -, e⟩ | ⟨-, e⟩ := walkStep_lastLook ht <;> rw [e] at he ⊢
      · simp
      · simp at he
    rw [hnext, if_pos he, execAll_fetch_decode hw, deliver]
  · rw [hnext, if_neg (Bool.eq_false_iff.1 he)]
    rfl

/-! ### The frame delivered -/

/-- `t` is a state in which the walk has ended, with no frame emitted and the buffers of `s` (R200). -/
structure State.EndsAt (s t : State) : Prop where
  noEmit : t.emit = false
  noOut : t.outValid = false
  ended : t.wst = .exhausted ∨ t.wst = .failed
  frame : t.frame = s.frame
  audio : t.audio = s.audio
  pixel : t.pixel = s.pixel
  frameLen : t.frameLen = s.frameLen
  audioLen : t.audioLen = s.audioLen

theorem endsAt_of_raise (x : Cause) (s : State) : s.EndsAt (clearOut (raise x s.lastLook)) := by
  obtain ⟨e, -⟩ | ⟨e, -⟩ := lastLook_cases s <;> rw [e] <;>
    exact ⟨rfl, rfl, endState_terminal x, rfl, rfl, rfl, rfl, rfl⟩

theorem walkScan_lastLook_of_terminal {s : State} (ht : s.wst.terminal = true) : s.lastLook.walkScan = none := by
  refine Option.eq_none_iff_forall_ne_some.2 fun r hr => ?_
  obtain ⟨hw, -⟩ | ⟨hw, -⟩ | ⟨hw, -⟩ | ⟨hw, -⟩ := walkScan_lastLook.1 hr <;> rw [hw] at ht <;> cases ht

/-- In every walker state NEXT delivers the whole frame that its last look finds, or leaves the walk ended. -/
theorem exec_next_outcome {s : State} (h : s.Inv) :
    (∃ p v, s.lastLook.walkScan = some (p, v) ∧ p + v.stride ≤ s.srcLen.toNat
      ∧ exec .next s = .next (accept p v (s.lastLook.driftAt p) s.lastLook).withDelivery)
    ∨ ((∀ p v, s.lastLook.walkScan = some (p, v) → s.srcLen.toNat < p + v.stride)
      ∧ ∃ t, exec .next s = .next t ∧ s.EndsAt t) := by
  cases ht : s.wst.terminal with
  | false => exact (exec_next_cases ht).imp_right fun ⟨hno, e⟩ => ⟨hno, _, e, endsAt_of_raise _ s⟩
  | true =>
    refine .inr ⟨by simp [walkScan_lastLook_of_terminal ht], ?_⟩
    cases hw : s.wst with
    | exhausted => exact ⟨_, exec_next_of_exhausted hw, rfl, rfl, .inl hw, rfl, rfl, rfl, rfl, rfl⟩
    | failed =>
      obtain ⟨hemit, hout⟩ := h.failedOut hw
      exact ⟨_, exec_next_of_failed hw, hemit, hout, .inr hw, rfl, rfl, rfl, rfl, rfl⟩
    | seeking | locked | resyncing => rw [hw] at ht; cases ht

/-- What a delivery leaves in the buffers, with the source read as `s` holds it. -/
theorem withDelivery_spec {s a : State} (h : s.SameSource a) :
    ∃ f : List Byte, f.length = a.curVar.stride
      ∧ (∀ i < a.curVar.stride,
          f[i]? = some (s.srcByte (a.curOff.toNat + i)) ∧ Memory.read a.withDelivery.frame i = f[i]?)
      ∧ (∀ j < a.curVar.stride / 10, Memory.read a.withDelivery.audio j = (audioOf (canon a.curVar f))[j]?)
      ∧ ∀ o < 34560, Memory.read a.withDelivery.pixel o = (pixelsOf s.cfg.data a.curVar f)[o]? := by
  refine ⟨a.locatedFrame, length_locatedFrame a, fun i hi => ⟨?_, ?_⟩, fun j hj => ?_, fun o ho => ?_⟩
  · rw [State.locatedFrame, getElem?_window a _ hi, State.srcByte, State.srcByte, h.2]
  · rw [read_withDelivery_frame, if_pos hi]
  · rw [read_withDelivery_audio, if_pos hj]
  · rw [read_withDelivery_pixel, if_pos ho, h.1]

theorem sameSource_lastLook (s : State) : s.SameSource s.lastLook := by
  obtain ⟨e, -⟩ | ⟨e, -⟩ := lastLook_cases s <;> rw [e]
  exact sameSource_hopMissed s

/-- Settles O48: NEXT delivers the frame of `exec_next_outcome`, which stands where `walkScan_lastLook` says. -/
theorem nextDeliversTheLocatedFrame : Obligations.NextDeliversTheLocatedFrame := by
  intro s h
  simp only [← walkScan_lastLook]
  obtain ⟨p, v, hscan, hfit, e⟩ | ⟨hno, t, e, hend⟩ := exec_next_outcome h
  · have hlook : p + v.stride ≤ s.lastLook.srcLen.toNat := by rwa [srcLen_lastLook]
    have hoff := toNat_accept_curOff hlook (s.lastLook.driftAt p)
    refine ⟨_, e, fun q u => ?_, fun _ => ⟨rfl, rfl, toNat_withDelivery_frameLen _, toNat_withDelivery_audioLen _, ?_⟩,
      nofun⟩
    · constructor
      · rintro ⟨-, hq, rfl⟩
        obtain rfl : p = q := hoff.symm.trans hq
        exact ⟨hfit, hscan⟩
      · rintro ⟨-, hq⟩
        cases hscan.symm.trans hq
        exact ⟨rfl, hoff, rfl⟩
    · exact withDelivery_spec (a := accept p v _ s.lastLook) (sameSource_lastLook s)
  · refine ⟨t, e, fun q u => ?_, ?_, fun _ => ⟨hend.noOut, hend.ended, hend.frame, hend.audio, hend.pixel,
      hend.frameLen, hend.audioLen⟩⟩
    · simp only [hend.noEmit, Bool.false_eq_true, false_and, false_iff]
      rintro ⟨hfit, hq⟩
      exact hfit.not_gt (hno q u hq)
    · simp [hend.noEmit]

/-! ### What NEXT leaves alone -/

/-- `t` differs from `s` in the registers and flags of the walker and in the buffers only (R191). -/
def State.SameOperands (s t : State) : Prop :=
  t = { s with
    curOff := t.curOff, curVar := t.curVar, expected := t.expected, drift := t.drift, count := t.count
    wst := t.wst, cause := t.cause, emit := t.emit, curValid := t.curValid, aligned := t.aligned
    outValid := t.outValid, frame := t.frame, frameLen := t.frameLen, audio := t.audio
    audioLen := t.audioLen, pixel := t.pixel, draws := t.draws }

/-- The buffer bytes behind those that `t` delivers are the bytes of `s`. -/
structure State.KeepsTail (s t : State) : Prop where
  frame : ∀ i, t.frameLen.toNat ≤ i → Memory.read t.frame i = Memory.read s.frame i
  audio : ∀ i, t.audioLen.toNat ≤ i → Memory.read t.audio i = Memory.read s.audio i
  pixel : ∀ i, 34560 ≤ i → Memory.read t.pixel i = Memory.read s.pixel i

theorem keepsTail_refl (s : State) : s.KeepsTail s := ⟨fun _ _ => rfl, fun _ _ => rfl, fun _ _ => rfl⟩

/-- Only the buffers of the first state are spoken of. -/
theorem State.KeepsTail.of_same_buffers {s a t : State} (h : a.KeepsTail t) (hf : a.frame = s.frame)
    (ha : a.audio = s.audio) (hp : a.pixel = s.pixel) : s.KeepsTail t :=
  ⟨hf ▸ h.frame, ha ▸ h.audio, hp ▸ h.pixel⟩

theorem keepsTail_withDelivery (s : State) : s.KeepsTail s.withDelivery where
  frame i hi := by
    rw [toNat_withDelivery_frameLen] at hi
    rw [read_withDelivery_frame, if_neg hi.not_gt]
  audio i hi := by
    rw [toNat_withDelivery_audioLen] at hi
    rw [read_withDelivery_audio, if_neg hi.not_gt]
  pixel i hi := by rw [read_withDelivery_pixel, if_neg hi.not_gt]

theorem lastLook_frame_audio_pixel (s : State) :
    s.lastLook.frame = s.frame ∧ s.lastLook.audio = s.audio ∧ s.lastLook.pixel = s.pixel := by
  obtain ⟨e, -⟩ | ⟨e, -⟩ := lastLook_cases s <;> rw [e] <;> exact ⟨rfl, rfl, rfl⟩

theorem sameOperands_accept_withDelivery (s : State) (p : Nat) (v : Variant) (d : Nat) :
    s.SameOperands (accept p v d s.lastLook).withDelivery := by
  obtain ⟨e, -⟩ | ⟨e, -⟩ := lastLook_cases s <;> rw [e] <;> rfl

theorem sameOperands_raise_lastLook (s : State) (x : Cause) : s.SameOperands (clearOut (raise x s.lastLook)) := by
  obtain ⟨e, -⟩ | ⟨e, -⟩ := lastLook_cases s <;> rw [e] <;> rfl

theorem next_leaves_the_rest {s t : State} (ht : exec .next s = .next t) : s.SameOperands t ∧ s.KeepsTail t := by
  cases hlive : s.wst.terminal with
  | false =>
    obtain ⟨hf, ha, hp⟩ := lastLook_frame_audio_pixel s
    obtain ⟨p, v, -, -, e⟩ | ⟨-, e⟩ := exec_next_cases hlive <;> obtain rfl := Host.Outcome.next.inj (e.symm.trans ht)
    · exact ⟨sameOperands_accept_withDelivery s p v _,
        (keepsTail_withDelivery (accept p v _ s.lastLook)).of_same_buffers hf ha hp⟩
    · exact ⟨sameOperands_raise_lastLook s _, (keepsTail_refl _).of_same_buffers hf ha hp⟩
  | true =>
    cases hw : s.wst with
    | exhausted =>
      obtain rfl := Host.Outcome.next.inj ((exec_next_of_exhausted hw).symm.trans ht)
      exact ⟨rfl, (keepsTail_refl _).of_same_buffers rfl rfl rfl⟩
    | failed =>
      obtain rfl := Host.Outcome.next.inj ((exec_next_of_failed hw).symm.trans ht)
      exact ⟨rfl, keepsTail_refl s⟩
    | seeking | locked | resyncing => rw [hw] at hlive; cases hlive

/-- Settles O49: `next_leaves_the_rest`. -/
theorem nextLeavesTheRestAlone : Obligations.NextLeavesTheRestAlone :=
  fun _ _ ht =>
    have ⟨hrest, htail⟩ := next_leaves_the_rest ht
    ⟨hrest, htail.frame, htail.audio, htail.pixel⟩

end Sys2Proof.Machine
end

section
/-! PROOF. How the located offsets grow (R198, R202), and that a walk begun again delivers the same frames (R201). -/

namespace Sys2Proof.Machine

/-! ### The offsets -/

/-- `t` has located one frame more than `s`: inside the source, behind the frame before it, and `DRIFT` bytes after
`EXPECTED` (R198, R202). -/
structure State.Advances (s t : State) : Prop where
  behind : s.curOff.toNat + s.curVar.stride ≤ t.curOff.toNat
  drift : t.curOff.toNat = s.expected.toNat + t.drift.toNat
  inside : t.curOff.toNat + t.curVar.stride ≤ s.srcLen.toNat
  counted : t.count.toNat = s.count.toNat + 1

theorem advances_accept {s : State} (h : s.Inv) (hv : s.curValid = true) {p : Nat} {v : Variant} {d : Nat}
    (hp : p = s.expected.toNat + d) (hfit : p + v.stride ≤ s.srcLen.toNat) : s.Advances (accept p v d s) := by
  obtain ⟨hexp, -⟩ := h.located hv
  have hoff := toNat_accept_curOff hfit d
  have hdrift := toNat_accept_drift hfit (d := d) (by omega)
  exact ⟨by omega, by omega, by rwa [hoff], h.toNat_accept_count p v d⟩

/-- A WSTEP that emits after a frame has been located advances. -/
theorem advances_walkStep {s : State} (h : s.Inv) (hv : s.curValid = true) (hw : s.wst ≠ .failed)
    (he : (walkStep s).emit = true) : s.Advances (walkStep s) := by
  obtain ⟨p, v, d, e, -, hfit, hfrom⟩ | ⟨e, -⟩ | ⟨e, -⟩ | ⟨e, -⟩ | ⟨e, -⟩ | ⟨-, hf⟩ := walkStep_cases s
  · rw [e]
    refine advances_accept h hv ?_ hfit
    obtain ⟨hseek, -⟩ | ⟨-, hp, hd⟩ | ⟨-, hp, hd⟩ := hfrom
    · rw [(h.seeking hseek).2.1] at hv
      cases hv
    · omega
    · omega
  case inr.inr.inr.inr.inr => exact absurd hf hw
  all_goals rw [e] at he; cases he

theorem inv_lastLook {s : State} (h : s.Inv) : s.lastLook.Inv := by
  obtain ⟨e, -⟩ | ⟨e, hw, -⟩ := lastLook_cases s <;> rw [e]
  · exact h
  · exact inv_hopMissed h hw

/-- A missed hop moves nothing that `Advances` speaks of. -/
theorem advances_of_lastLook {s t : State} (h : s.lastLook.Advances t) : s.Advances t := by
  obtain ⟨e, -⟩ | ⟨e, -⟩ := lastLook_cases s <;> rw [e] at h
  · exact h
  · exact ⟨h.behind, h.drift, h.inside, h.counted⟩

/-- The delivery moves nothing that `Advances` speaks of. -/
theorem State.Advances.withDelivery {s t : State} (h : s.Advances t) : s.Advances t.withDelivery :=
  ⟨h.behind, h.drift, h.inside, h.counted⟩

theorem curValid_lastLook (s : State) : s.lastLook.curValid = s.curValid := by
  obtain ⟨e, -⟩ | ⟨e, -⟩ := lastLook_cases s <;> rw [e]
  rfl

/-- A NEXT that emits after a frame has been located advances: its last look accepts, and the frame is delivered. -/
theorem advances_next {s t : State} (h : s.Inv) (hv : s.curValid = true) (ht : exec .next s = .next t)
    (he : t.emit = true) : s.Advances t := by
  obtain ⟨p, v, hscan, hfit, e⟩ | ⟨-, u, e, hend⟩ := exec_next_outcome h
  · have hwalk := walkStep_of_fits hscan (by rwa [srcLen_lastLook])
    have hw : s.lastLook.wst ≠ .failed := fun hf => by simp [State.walkScan, hf] at hscan
    have hadv := advances_walkStep (inv_lastLook h) (by rwa [curValid_lastLook]) hw (by rw [hwalk]; rfl)
    obtain rfl := Host.Outcome.next.inj (e.symm.trans ht)
    rw [hwalk] at hadv
    exact (advances_of_lastLook hadv).withDelivery
  · obtain rfl := Host.Outcome.next.inj (e.symm.trans ht)
    rw [hend.noEmit] at he
    cases he

theorem advances_wstep {s t : State} (h : s.Inv) (hv : s.curValid = true) (ht : exec .wstep s = .next t)
    (he : t.emit = true) : s.Advances t := by
  have hw : s.wst ≠ .failed := fun hf => by
    cases ht
    rw [unlessFailed_of_eq hf, (h.failedOut hf).1] at he
    cases he
  obtain rfl := Host.Outcome.next.inj ((exec_wstep_of_ne hw).symm.trans ht)
  exact advances_walkStep h hv hw he

/-- Settles O55: `advances_wstep` and `advances_next`. -/
theorem locatedOffsetsIncrease : Obligations.LocatedOffsetsIncrease := by
  intro s t h hv ht he
  obtain ⟨hbehind, hdrift, hinside, hcounted⟩ :=
    ht.elim (fun ht => advances_wstep h hv ht he) fun ht => advances_next h hv ht he
  exact ⟨hbehind, hdrift, hinside, hcounted⟩

/-! ### A walk begun again -/

/-- The part of a state that a walk goes by and writes: the two parameters, `SRC_LEN`, `START`, the walker's registers
and flags, and `OUT_VALID`; everything else as after reset (R191, R201). -/
def State.walkPart (s : State) : State :=
  { State.reset with
    cfg := s.cfg, src := s.src, srcLen := s.srcLen, start := s.start
    curOff := s.curOff, curVar := s.curVar, expected := s.expected, drift := s.drift, count := s.count
    wst := s.wst, cause := s.cause, emit := s.emit, curValid := s.curValid, aligned := s.aligned
    outValid := s.outValid }

theorem walkScan_walkPart (s : State) : s.walkPart.walkScan = s.walkScan := by
  have hlocate := locate_congr (s := s) (t := s.walkPart) ⟨rfl, rfl⟩ rfl
  have hw : s.walkPart.wst = s.wst := rfl
  simp only [State.walkScan, hlocate, hw]
  rfl

theorem lastLook_walkPart (s : State) : s.walkPart.lastLook = s.lastLook.walkPart := by
  obtain ⟨e, hlook⟩ | ⟨e, hlook⟩ := lastLook_cases s <;> rw [e, State.lastLook, walkScan_walkPart]
  · exact if_neg hlook
  · exact if_pos hlook

/-- `t` holds the same valid output as `s`, as far as one is valid. -/
def State.SameOutput (s t : State) : Prop :=
  s.outValid = true → s.audioLen = t.audioLen
    ∧ (∀ j < s.audioLen.toNat, Memory.read s.audio j = Memory.read t.audio j)
    ∧ ∀ o < 34560, Memory.read s.pixel o = Memory.read t.pixel o

/-- `s` and `t` stand at the same point of the same walk, with the same output. -/
def State.SameWalk (s t : State) : Prop := s.walkPart = t.walkPart ∧ s.SameOutput t

theorem walkPart_startPass {s t : State} (hcfg : s.cfg = t.cfg) (hsrc : s.src = t.src) (hlen : s.srcLen = t.srcLen)
    (hstart : s.start = t.start) : (startPass s).walkPart = (startPass t).walkPart := by
  simp only [State.walkPart, startPass, hcfg, hsrc, hlen, hstart]

/-- What a delivery puts into the buffers depends on the walk part alone. -/
theorem sameWalk_withDelivery {s t : State} (h : s.walkPart = t.walkPart) :
    s.withDelivery.SameWalk t.withDelivery := by
  have hvar : s.curVar = t.curVar := (congrArg State.curVar h :)
  have hcfg : s.cfg = t.cfg := (congrArg State.cfg h :)
  have hframe : s.locatedFrame = t.locatedFrame := (congrArg State.locatedFrame h :)
  refine ⟨congrArg (fun u => { u with outValid := true }) h, fun _ => ⟨?_, fun j hj => ?_, fun o ho => ?_⟩⟩
  · rw [← BitVec.toNat_inj, toNat_withDelivery_audioLen, toNat_withDelivery_audioLen, hvar]
  · rw [toNat_withDelivery_audioLen] at hj
    rw [read_withDelivery_audio, if_pos hj, read_withDelivery_audio, if_pos (hvar ▸ hj), hvar, hframe]
  · rw [read_withDelivery_pixel, if_pos ho, read_withDelivery_pixel, if_pos ho, hvar, hframe, hcfg]

theorem sameOutput_of_not_valid {s : State} (h : s.outValid = false) (t : State) : s.SameOutput t := by
  simp [State.SameOutput, h]

/-- From a walk that has not ended NEXT takes two states at the same point to the same next point: both deliver the
frame of one scan, or both end. -/
theorem sameWalk_next_of_not_terminal {s s' t t' : State} (h : s.walkPart = s'.walkPart)
    (hlive : s.wst.terminal = false) (ht : exec .next s = .next t) (ht' : exec .next s' = .next t') :
    t.SameWalk t' := by
  have hlive' : s'.wst.terminal = false := (congrArg State.wst h :) ▸ hlive
  have hlen : s.srcLen = s'.srcLen := (congrArg State.srcLen h :)
  have hlook : s.lastLook.walkPart = s'.lastLook.walkPart := by
    rw [← lastLook_walkPart, h, lastLook_walkPart]
  have hscan : s.lastLook.walkScan = s'.lastLook.walkScan := by
    rw [← walkScan_walkPart, hlook, walkScan_walkPart]
  obtain ⟨p, v, hp, hfit, e⟩ | ⟨hno, e⟩ := exec_next_cases hlive <;>
    obtain ⟨p', v', hp', hfit', e'⟩ | ⟨hno', e'⟩ := exec_next_cases hlive' <;>
    obtain rfl := Host.Outcome.next.inj (e.symm.trans ht) <;>
    obtain rfl := Host.Outcome.next.inj (e'.symm.trans ht')
  · cases hp.symm.trans (hscan.trans hp')
    exact sameWalk_withDelivery (congrArg (fun u => accept p v (u.driftAt p) u) hlook :)
  · exact absurd (hno' p v (hscan ▸ hp)) (hlen ▸ hfit.not_gt)
  · exact absurd (hno p' v' (hscan ▸ hp')) (hlen ▸ hfit'.not_gt)
  · exact ⟨(congrArg (fun u => clearOut (raise u.endCause u)) hlook :), sameOutput_of_not_valid rfl _⟩

/-- NEXT takes two states at the same point of a walk to the same next point (R201). -/
theorem sameWalk_next {s s' t t' : State} (h : s.SameWalk s') (ht : exec .next s = .next t)
    (ht' : exec .next s' = .next t') : t.SameWalk t' := by
  obtain ⟨hpart, hout⟩ := h
  have hw : s.wst = s'.wst := (congrArg State.wst hpart :)
  cases hs : s.wst with
  | seeking | locked | resyncing => exact sameWalk_next_of_not_terminal hpart (by rw [hs]; rfl) ht ht'
  | exhausted =>
    obtain rfl := Host.Outcome.next.inj ((exec_next_of_exhausted hs).symm.trans ht)
    obtain rfl := Host.Outcome.next.inj ((exec_next_of_exhausted (hw ▸ hs)).symm.trans ht')
    exact ⟨(congrArg (fun u => clearOut (clearEmit u)) hpart :), sameOutput_of_not_valid rfl _⟩
  | failed =>
    obtain rfl := Host.Outcome.next.inj ((exec_next_of_failed hs).symm.trans ht)
    obtain rfl := Host.Outcome.next.inj ((exec_next_of_failed (hw ▸ hs)).symm.trans ht')
    exact ⟨hpart, hout⟩

theorem execAll_cons {i : Instr} {s u : State} (h : exec i s = .next u) (is : List Instr) :
    execAll (i :: is) s = execAll is u := by
  rw [execAll, h]

theorem sameWalk_execAll_next {n : Nat} {s s' t t' : State} (h : s.SameWalk s')
    (ht : execAll (List.replicate n .next) s = .next t) (ht' : execAll (List.replicate n .next) s' = .next t') :
    t.SameWalk t' := by
  induction n generalizing s s' with
  | zero =>
    cases ht
    cases ht'
    exact h
  | succ n ih =>
    obtain ⟨u, hu⟩ := exec_answers .next s
    obtain ⟨u', hu'⟩ := exec_answers .next s'
    rw [List.replicate_succ, execAll_cons hu] at ht
    rw [List.replicate_succ, execAll_cons hu'] at ht'
    exact ih (sameWalk_next h hu hu') ht ht'

/-- Settles O58: INIT takes both states to the same point of a walk, and every NEXT keeps them there. -/
theorem walkRestartsByRecomputation : Obligations.WalkRestartsByRecomputation := by
  intro s s' t t' n hcfg hsrc hlen hstart ht ht'
  rw [execAll_cons (exec_init _)] at ht ht'
  have hinit : (startPass s).SameWalk (startPass s') :=
    ⟨walkPart_startPass hcfg hsrc hlen hstart, sameOutput_of_not_valid rfl _⟩
  obtain ⟨hpart, hout⟩ := sameWalk_execAll_next hinit ht ht'
  exact ⟨(congrArg State.curOff hpart :), (congrArg State.curVar hpart :), (congrArg State.aligned hpart :),
    (congrArg State.drift hpart :), (congrArg State.expected hpart :), (congrArg State.count hpart :),
    (congrArg State.wst hpart :), (congrArg State.cause hpart :), (congrArg State.emit hpart :),
    (congrArg State.curValid hpart :), (congrArg State.outValid hpart :), hout⟩

end Sys2Proof.Machine
end

section
/-! PROOF. The system commands NOP (R230) and INIT (R231). -/

namespace Sys2Proof.Machine

/-- Settles O16: `exec_nop`, and `decode_encode` for its byte. -/
theorem nopChangesNothing : Obligations.NopChangesNothing :=
  ⟨decode_encode .nop, exec_nop⟩

/-- Settles O17: INIT answers `startPass` (`exec_init`), which is the update R231 lists; `decode_encode` for its
byte. -/
theorem initBeginsANewPass : Obligations.InitBeginsANewPass :=
  ⟨decode_encode .init, rfl, exec_init⟩

end Sys2Proof.Machine
end

section
/-! PROOF. The trap mechanism: what Failed ignores (R247 (1), R249) and what a raise writes (R246). -/

namespace Sys2Proof.Machine

/-! ### Commands in Failed -/

/-- Every command but NOP and INIT passes through `unlessFailed` (R249). -/
theorem exec_of_failed {i : Instr} {s : State} (hw : s.wst = .failed) (hnop : i ≠ .nop) (hinit : i ≠ .init) :
    exec i s = .next s := by
  cases i with
  | nop => exact absurd rfl hnop
  | init => exact absurd rfl hinit
  | probe => rw [exec_probe, unlessFailed_of_eq hw]
  | matchV v => rw [exec_matchV, unlessFailed_of_eq hw]
  | locate => rw [exec_locate, unlessFailed_of_eq hw]
  | fetch => rw [exec_fetch, unlessFailed_of_eq hw]
  | decodeV v => rw [exec_decodeV, unlessFailed_of_eq hw]
  | wstep => rw [exec_wstep, unlessFailed_of_eq hw]
  | next => exact exec_next_of_failed hw

/-- A legal byte other than those of NOP and INIT is another command, and the raise of an illegal one is guarded. -/
theorem runCommand_of_failed {b : Byte} {s : State} (hw : s.wst = .failed) (hnop : b ≠ encode .nop)
    (hinit : b ≠ encode .init) : runCommand b s = .next s := by
  cases hd : decode b with
  | ok i =>
    have hb : b = encode i := eq_encode_of_decode hd
    have hexec : exec i s = .next s := exec_of_failed hw (fun h => hnop (h ▸ hb)) (fun h => hinit (h ▸ hb))
    rw [runCommand, hd]
    exact hexec
  | error r =>
    have hill : (decode b).toOption = none := by rw [hd]; rfl
    rw [runCommand_of_illegal hill, unlessFailed_of_eq hw]

/-- Settles O7: the step takes the event, and `runCommand_of_failed`; 0x00 and 0x10 are the bytes of NOP and INIT. -/
theorem failedIgnoresAllButNopAndInit : Obligations.FailedIgnoresAllButNopAndInit := by
  intro s rest data hb hw hp hnop hinit
  rw [step_take hb hp, takeEvent_command, truncate_eq_extractLsb]
  exact runCommand_of_failed (s := s.withPort rest) hw hnop hinit

/-! ### The writes of a raise -/

/-- R246's two end states, as the choice the rule words. -/
theorem Cause.endState_eq_ite (x : Cause) : x.endState = if x = .exhausted then .exhausted else .failed := by
  cases x <;> rfl

/-- Settles O18: `raise` is the update R246 lists, with the end state as `Cause.endState_eq_ite` says. -/
theorem raiseWritesOnlyItsFour : Obligations.RaiseWritesOnlyItsFour := by
  intro x s _
  rw [raise, Cause.endState_eq_ite]

end Sys2Proof.Machine
end

section
/-! PROOF. The reset input (R270), and where a step takes nothing from the port (R270, R278, U5). -/

namespace Sys2Proof.Machine

theorem step_of_port_nil {s : State} (hp : s.port = []) : step s = .next s := by
  simp only [step, hp]

theorem step_of_port_cons {s : State} {e : PortEvent} {rest : List PortEvent} (hp : s.port = e :: rest) :
    step s = if s.busy ∧ e ≠ .reset then .fault .portAccessWhileBusy else takeEvent e (s.withPort rest) := by
  simp only [step, hp]

theorem takeEvent_reset (s : State) : takeEvent .reset s = .next (resetBlock s) := rfl

/-- `BUSY` does not keep the reset input out (R270). -/
theorem step_reset {s : State} {rest : List PortEvent} (hp : s.port = .reset :: rest) :
    step s = .next (resetBlock (s.withPort rest)) := by
  rw [step_of_port_cons hp, if_neg fun h => h.2 rfl, takeEvent_reset]

/-- Settles O2: the step takes the reset input (`step_reset`), and `resetBlock` keeps the five fields listed. -/
theorem resetInputRestoresResetState : Obligations.ResetInputRestoresResetState := by
  intro s rest hp
  rw [step_reset hp]
  rfl

/-- Settles O8: the two cases of the port, and in the second the guard of the step holds. -/
theorem emptyPortWaitsBusyPortIsStuck : Obligations.EmptyPortWaitsBusyPortIsStuck := by
  refine ⟨fun s hp => step_of_port_nil hp, fun s e rest hp hb he => ?_⟩
  rw [step_of_port_cons hp, if_pos ⟨hb, he⟩]

end Sys2Proof.Machine
end
